-- ==== Sys2Proof/Word.lean ====
section
/-! DEFINITION. The machine's units of data: bytes, 16-bit words, 32-bit longs, and register numbers
(00_scope.md R7, R9; 10_state.md R21). -/

namespace Sys2Proof

/-- A byte. -/
abbrev Byte := BitVec 8
/-- A 16-bit instruction word; the spec's "word" (00_scope.md R9). -/
abbrev Half := BitVec 16
/-- A 32-bit value: registers, addresses, longs (10_state.md R21). -/
abbrev Word := BitVec 32
/-- A 64-bit value: a product in MACH:MACL, a double (10_state.md R41, R51). -/
abbrev DWord := BitVec 64
/-- One nibble of an instruction word (00_scope.md R7). -/
abbrev Nib := BitVec 4
/-- The number of a general register, R0 to R15 (10_state.md R21). -/
abbrev Reg := Fin 16
/-- The number of a register of the inactive bank (10_state.md R23). -/
abbrev BReg := Fin 8
/-- The number of a floating-point register, or of a pair (10_state.md R50, R51). -/
abbrev FReg := Fin 16

end Sys2Proof
end

