-- ==== Sys2Proof/Config.lean ====
section
/-! DEFINITION. What an implementation fixes (00_scope.md R6), and the values the spec leaves open. -/

namespace Sys2Proof

/-- The byte order of the machine, parameter ENDIAN (20_memory.md R80). -/
inductive Endian where
  | little
  | big
  deriving DecidableEq, Repr

/-- The FPU profile, parameter FPU_PROFILE (45_fpu.md R501). -/
inductive FpuProfile where
  | none
  | basic
  | normal
  deriving DecidableEq, Repr

/-- The factor of displacement and indexed FMOV.S forms when SZ = 1, parameter FMOV_PAIR_SCALE (45_fpu.md R522). -/
inductive PairScale where
  | four
  | eight
  deriving DecidableEq, Repr

/-- The rounding of STHF16, parameter STHF16_ROUND (45_fpu.md R539); `unfixed` lets each execution round either way. -/
inductive HalfRounding where
  | nearestEven
  | awayFromZero
  | towardZero
  | unfixed
  deriving DecidableEq, Repr

/-- What stands at a physical address (20_memory.md R92). -/
inductive RegionKind where
  /-- Firmware or RAM: a plain array of bytes. -/
  | memory
  /-- MMIO or chipset: a device of the platform, which the spec does not describe (R90). -/
  | device
  /-- A window of memory-mapped registers (10_state.md R45). -/
  | registers
  deriving DecidableEq, Repr

/-- One line of the physical memory map, both ends included (20_memory.md R92). -/
structure Region where
  lo : Nat
  hi : Nat
  kind : RegionKind
  deriving DecidableEq, Repr

/-- The implementation parameters of 00_scope.md R6. They are fixed for a machine: no step changes them. -/
structure Config where
  /-- ENDIAN. -/
  endian : Endian
  /-- ADDR32: true selects the 32-bit addressing the spec does not define (20_memory.md R70). -/
  addr32 : Bool
  /-- HAS_MMU (20_memory.md R106). -/
  hasMmu : Bool
  /-- FPU_PROFILE. -/
  fpuProfile : FpuProfile
  /-- RESET_PC (70_reset_and_hazards.md R700). -/
  resetPc : Word
  /-- IMM12_TST_SIGNED (42_logic_shift.md R358). -/
  imm12TstSigned : Bool
  /-- IMM12_OR_SIGNED (42_logic_shift.md R355). -/
  imm12OrSigned : Bool
  /-- PCREL_R0_ALIGN (40_data_transfer.md R204). -/
  pcrelR0Align : Bool
  /-- FMOV_PAIR_SCALE. -/
  fmovPairScale : PairScale
  /-- FMAC_FUSED (45_fpu.md R519). -/
  fmacFused : Bool
  /-- STHF16_ROUND. -/
  sthf16Round : HalfRounding
  /-- The populated physical ranges (20_memory.md R92). -/
  regions : List Region
  /-- The initial contents of memory, a byte at each physical address listed: of two for one address the first counts
  (20_memory.md R92, 70_reset_and_hazards.md R720). -/
  contents : List Host.Cell
  deriving DecidableEq, Repr

/-- The physical map of 20_memory.md R92; the range F000_0000..FDFF_FFFF is not listed there, so nothing covers it. -/
def Config.standardRegions : List Region :=
  [ ⟨0x00000000, 0x001FFFFF, .memory⟩,
    ⟨0x00200000, 0x0BFFFFFF, .device⟩,
    ⟨0x0C000000, 0x0FFFFFFF, .memory⟩,
    ⟨0x10000000, 0x17FFFFFF, .memory⟩,
    ⟨0x18000000, 0x1DFFFFFF, .memory⟩,
    ⟨0x1E000000, 0x1EFFFFFF, .device⟩,
    ⟨0x1F000000, 0x1FFFFFFF, .registers⟩,
    ⟨0x20000000, 0x9FFFFFFF, .memory⟩,
    ⟨0xA0000000, 0xEFFFFFFF, .device⟩,
    ⟨0xFE000000, 0xFEFFFFFF, .device⟩,
    ⟨0xFF000000, 0xFFFFFFFF, .registers⟩ ]

/-- The default of every parameter of 00_scope.md R6. DESIGN CHOICE where R6 says OPEN and names no default
(`hasMmu`, `fmovPairScale`, `fmacFused`); PRESUMED SH-4 for `resetPc`. Unsafe only for a claim about this one
configuration; every statement is made for all of them. -/
def Config.standard : Config :=
  { endian := .little
    addr32 := false
    hasMmu := true
    fpuProfile := .normal
    resetPc := 0xA0000000
    imm12TstSigned := true
    imm12OrSigned := false
    pcrelR0Align := true
    fmovPairScale := .four
    fmacFused := false
    sthf16Round := .nearestEven
    regions := Config.standardRegions
    contents := [] }

/-! ### Free values

Each is applied to the draw counter of the state, so that two draws need not agree. Nothing is known of any of them. -/

/-- Whether a translated access misses the TLB although the page table holds the page (20_memory.md R106(b), U24). -/
opaque Config.freeTlbMiss : Nat → Bool
/-- Which of the old and new bytes a fetch of a stored-to byte returns (20_memory.md R113, U28). -/
opaque Config.freeFetch : Nat → Nat
/-- Whether PREF or ICBI raises the exception of its address (40_data_transfer.md R264, U15). -/
opaque Config.freeCacheFault : Nat → Bool
/-- The value MMUCR bit 2 reads back as after a store that set it (20_memory.md R100, U11). -/
opaque Config.freeTlbInvalidate : Nat → Bool
/-- The value a device answers a load with (20_memory.md R90, U30). -/
opaque Config.freeDevice : Nat → Word
/-- The bits a NaN result is made from (45_fpu.md R505(d), U17). -/
opaque Config.freeNan : Nat → DWord
/-- The result of FTRC of a NaN, an infinity or a value out of range (45_fpu.md R533, U19). -/
opaque Config.freeTruncate : Nat → Word
/-- The rounding increment of STHF16 where the implementation fixes none (45_fpu.md R539, U21). -/
opaque Config.freeHalfRound : Nat → Bool

end Sys2Proof
end

