-- ==== Sys2Proof/Syntax.lean ====
section
/-! DEFINITION. The instructions of BJX1-32 32FC0: one constructor for each row of spec/opcode_table.json.
Operands stand in the order of the assembler syntax (30_encoding.md R170): source first, destination last.
A multi-part immediate or displacement is one field, assembled as R133 says. -/

namespace Sys2Proof

/-- The instructions, rule R2 (a) to (d); each constructor names its syntax, its word and its rule. -/
inductive Instr where
  /-- `STC SR, Rn`, word `0n02`, rule R440. -/
  | stcSr (rn : Reg)
  /-- `STC GBR, Rn`, word `0n12`, rule R440. -/
  | stcGbr (rn : Reg)
  /-- `STC VBR, Rn`, word `0n22`, rule R440. -/
  | stcVbr (rn : Reg)
  /-- `STC SSR, Rn`, word `0n32`, rule R440. -/
  | stcSsr (rn : Reg)
  /-- `STC SPC, Rn`, word `0n42`, rule R440. -/
  | stcSpc (rn : Reg)
  /-- `STC Rm_B, Rn`, word `0nM2`, rule R441. -/
  | stcBank (b : BReg) (rn : Reg)
  /-- `BSRF Rm`, word `0m03`, rule R414. -/
  | bsrf (rm : Reg)
  /-- `BRAF Rm`, word `0m23`, rule R408. -/
  | braf (rm : Reg)
  /-- `PREF @Rn`, word `0n83`, rule R264. -/
  | pref (rn : Reg)
  /-- `MOVCA.L R0, @Rn`, word `0nC3`, rule R262. -/
  | movcaL (rn : Reg)
  /-- `ICBI @Rn`, word `0nE3`, rule R460. -/
  | icbi (rn : Reg)
  /-- `MOV.B Rm, @(R0, Rn)`, word `0nm4`, rule R220. -/
  | movBStoreR0Idx (rm : Reg) (rn : Reg)
  /-- `MOV.W Rm, @(R0, Rn)`, word `0nm5`, rule R221. -/
  | movWStoreR0Idx (rm : Reg) (rn : Reg)
  /-- `MOV.L Rm, @(R0, Rn)`, word `0nm6`, rule R222. -/
  | movLStoreR0Idx (rm : Reg) (rn : Reg)
  /-- `MUL.L Rm, Rn`, word `0nm7`, rule R331. -/
  | mulL (rm : Reg) (rn : Reg)
  /-- `CLRT`, word `0008`, rule R452. -/
  | clrt
  /-- `SETT`, word `0018`, rule R455. -/
  | sett
  /-- `CLRMAC`, word `0028`, rule R450. -/
  | clrmac
  /-- `LDTLB`, word `0038`, rule R462. -/
  | ldtlb
  /-- `CLRS`, word `0048`, rule R451. -/
  | clrs
  /-- `SETS`, word `0058`, rule R454. -/
  | sets
  /-- `NOTT`, word `0068`, rule R453. -/
  | nott
  /-- `NOP`, word `0i09`, rule R456. -/
  | nop (imm : BitVec 4)
  /-- `DIV0U`, word `0019`, rule R316. -/
  | div0u
  /-- `MOVT Rn`, word `0n29`, rule R252. -/
  | movt (rn : Reg)
  /-- `MOVRT Rn`, word `0n39`, rule R253. -/
  | movrt (rn : Reg)
  /-- `STS MACH, Rn`, word `0n0A`, rule R430. -/
  | stsMach (rn : Reg)
  /-- `STS MACL, Rn`, word `0n1A`, rule R430. -/
  | stsMacl (rn : Reg)
  /-- `STS PR, Rn`, word `0n2A`, rule R430. -/
  | stsPr (rn : Reg)
  /-- `STC SGR, Rn`, word `0n3A`, rule R440. -/
  | stcSgr (rn : Reg)
  /-- `STS FPUL, Rn`, word `0n5A`, rule R430. -/
  | stsFpul (rn : Reg)
  /-- `STS FPSCR, Rn`, word `0n6A`, rule R430. -/
  | stsFpscr (rn : Reg)
  /-- `STC DBR, Rn`, word `0nFA`, rule R440. -/
  | stcDbr (rn : Reg)
  /-- `RTS`, word `000B`, rule R417. -/
  | rts
  /-- `SLEEP`, word `001B`, rule R468. -/
  | sleep
  /-- `RTE`, word `002B`, rule R470. -/
  | rte
  /-- `BRK`, word `003B`, rule R466. -/
  | brk
  /-- `RTS/N`, word `006B`, rule R418. -/
  | rtsN
  /-- `MOV.B @(R0, Rm), Rn`, word `0nmC`, rule R223. -/
  | movBLoadR0Idx (rm : Reg) (rn : Reg)
  /-- `MOV.W @(R0, Rm), Rn`, word `0nmD`, rule R224. -/
  | movWLoadR0Idx (rm : Reg) (rn : Reg)
  /-- `MOV.L @(R0, Rm), Rn`, word `0nmE`, rule R225. -/
  | movLLoadR0Idx (rm : Reg) (rn : Reg)
  /-- `MOV.L Rm, @(Rn, disp4)`, word `1nmd`, rule R226. -/
  | movLStoreDisp4 (rm : Reg) (rn : Reg) (disp : BitVec 4)
  /-- `MOV.B Rm, @Rn`, word `2nm0`, rule R214. -/
  | movBStoreInd (rm : Reg) (rn : Reg)
  /-- `MOV.W Rm, @Rn`, word `2nm1`, rule R215. -/
  | movWStoreInd (rm : Reg) (rn : Reg)
  /-- `MOV.L Rm, @Rn`, word `2nm2`, rule R216. -/
  | movLStoreInd (rm : Reg) (rn : Reg)
  /-- `CAS.L Rm, Rn, @R0`, word `2nm3`, rule R260. -/
  | casL (rm : Reg) (rn : Reg)
  /-- `MOV.B Rm, @-Rn`, word `2nm4`, rule R217. -/
  | movBStorePreDec (rm : Reg) (rn : Reg)
  /-- `MOV.W Rm, @-Rn`, word `2nm5`, rule R218. -/
  | movWStorePreDec (rm : Reg) (rn : Reg)
  /-- `MOV.L Rm, @-Rn`, word `2nm6`, rule R219. -/
  | movLStorePreDec (rm : Reg) (rn : Reg)
  /-- `DIV0S Rm, Rn`, word `2nm7`, rule R315. -/
  | div0s (rm : Reg) (rn : Reg)
  /-- `TST Rm, Rn`, word `2nm8`, rule R357. -/
  | tst (rm : Reg) (rn : Reg)
  /-- `AND Rm, Rn`, word `2nm9`, rule R350. -/
  | and (rm : Reg) (rn : Reg)
  /-- `XOR Rm, Rn`, word `2nmA`, rule R359. -/
  | xor (rm : Reg) (rn : Reg)
  /-- `OR Rm, Rn`, word `2nmB`, rule R354. -/
  | or (rm : Reg) (rn : Reg)
  /-- `CMPSTR Rm, Rn`, word `2nmC`, rule R313. -/
  | cmpStr (rm : Reg) (rn : Reg)
  /-- `XTRCT Rm, Rn`, word `2nmD`, rule R258. -/
  | xtrct (rm : Reg) (rn : Reg)
  /-- `MULU.W Rm, Rn`, word `2nmE`, rule R333. -/
  | muluW (rm : Reg) (rn : Reg)
  /-- `MULS.W Rm, Rn`, word `2nmF`, rule R332. -/
  | mulsW (rm : Reg) (rn : Reg)
  /-- `CMPEQ Rm, Rn`, word `3nm0`, rule R306. -/
  | cmpEq (rm : Reg) (rn : Reg)
  /-- `CMPHS Rm, Rn`, word `3nm2`, rule R310. -/
  | cmpHs (rm : Reg) (rn : Reg)
  /-- `CMPGE Rm, Rn`, word `3nm3`, rule R307. -/
  | cmpGe (rm : Reg) (rn : Reg)
  /-- `DIV1 Rm, Rn`, word `3nm4`, rule R317. -/
  | div1 (rm : Reg) (rn : Reg)
  /-- `DMULU.L Rm, Rn`, word `3nm5`, rule R319. -/
  | dmuluL (rm : Reg) (rn : Reg)
  /-- `CMPHI Rm, Rn`, word `3nm6`, rule R309. -/
  | cmpHi (rm : Reg) (rn : Reg)
  /-- `CMPGT Rm, Rn`, word `3nm7`, rule R308. -/
  | cmpGt (rm : Reg) (rn : Reg)
  /-- `SUB Rm, Rn`, word `3nm8`, rule R340. -/
  | sub (rm : Reg) (rn : Reg)
  /-- `SUBC Rm, Rn`, word `3nmA`, rule R342. -/
  | subc (rm : Reg) (rn : Reg)
  /-- `SUBV Rm, Rn`, word `3nmB`, rule R343. -/
  | subv (rm : Reg) (rn : Reg)
  /-- `ADD Rm, Rn`, word `3nmC`, rule R300. -/
  | add (rm : Reg) (rn : Reg)
  /-- `DMULS.L Rm, Rn`, word `3nmD`, rule R318. -/
  | dmulsL (rm : Reg) (rn : Reg)
  /-- `ADDC Rm, Rn`, word `3nmE`, rule R303. -/
  | addc (rm : Reg) (rn : Reg)
  /-- `ADDV Rm, Rn`, word `3nmF`, rule R304. -/
  | addv (rm : Reg) (rn : Reg)
  /-- `SHLL Rn`, word `4n00`, rule R370. -/
  | shll (rn : Reg)
  /-- `DT Rn`, word `4n10`, rule R320. -/
  | dt (rn : Reg)
  /-- `SHAL Rn`, word `4n20`, rule R368. -/
  | shal (rn : Reg)
  /-- `SHLR Rn`, word `4n01`, rule R376. -/
  | shlr (rn : Reg)
  /-- `CMPPZ Rn`, word `4n11`, rule R312. -/
  | cmpPz (rn : Reg)
  /-- `SHAR Rn`, word `4n21`, rule R369. -/
  | shar (rn : Reg)
  /-- `STHF16 FPUL, Rn`, word `4n61`, rule R539. -/
  | sthf16 (rn : Reg)
  /-- `LDHF16 Rm, FPUL`, word `4m71`, rule R537. -/
  | ldhf16 (rm : Reg)
  /-- `FMOV.S FRm, @(PC, R0)`, word `4mB1`, rule R526. -/
  | fmovStorePcR0 (rm : FReg)
  /-- `MOV.B Rm, @(PC, R0)`, word `4mC1`, rule R238. -/
  | movBStorePcR0 (rm : Reg)
  /-- `MOV.W Rm, @(PC, R0)`, word `4mD1`, rule R239. -/
  | movWStorePcR0 (rm : Reg)
  /-- `MOV.L Rm, @(PC, R0)`, word `4mE1`, rule R240. -/
  | movLStorePcR0 (rm : Reg)
  /-- `STS.L MACH, @-Rn`, word `4n02`, rule R431. -/
  | stslMach (rn : Reg)
  /-- `STS.L MACL, @-Rn`, word `4n12`, rule R431. -/
  | stslMacl (rn : Reg)
  /-- `STS.L PR, @-Rn`, word `4n22`, rule R431. -/
  | stslPr (rn : Reg)
  /-- `STC.L SGR, @-Rn`, word `4n32`, rule R442. -/
  | stclSgr (rn : Reg)
  /-- `STS.L FPUL, @-Rn`, word `4n52`, rule R431. -/
  | stslFpul (rn : Reg)
  /-- `STS.L FPSCR, @-Rn`, word `4n62`, rule R431. -/
  | stslFpscr (rn : Reg)
  /-- `STC.L DBR, @-Rn`, word `4nF2`, rule R442. -/
  | stclDbr (rn : Reg)
  /-- `STC.L SR, @-Rn`, word `4n03`, rule R442. -/
  | stclSr (rn : Reg)
  /-- `STC.L GBR, @-Rn`, word `4n13`, rule R442. -/
  | stclGbr (rn : Reg)
  /-- `STC.L VBR, @-Rn`, word `4n23`, rule R442. -/
  | stclVbr (rn : Reg)
  /-- `STC.L SSR, @-Rn`, word `4n33`, rule R442. -/
  | stclSsr (rn : Reg)
  /-- `STC.L SPC, @-Rn`, word `4n43`, rule R442. -/
  | stclSpc (rn : Reg)
  /-- `STC.L Rm_B, @-Rn`, word `4nM3`, rule R443. -/
  | stclBank (b : BReg) (rn : Reg)
  /-- `ROTL Rn`, word `4n04`, rule R365. -/
  | rotl (rn : Reg)
  /-- `ROTCL Rn`, word `4n24`, rule R363. -/
  | rotcl (rn : Reg)
  /-- `SHLL4 Rn`, word `4n34`, rule R372. -/
  | shll4 (rn : Reg)
  /-- `ROTR Rn`, word `4n05`, rule R366. -/
  | rotr (rn : Reg)
  /-- `CMPPL Rn`, word `4n15`, rule R311. -/
  | cmpPl (rn : Reg)
  /-- `ROTCR Rn`, word `4n25`, rule R364. -/
  | rotcr (rn : Reg)
  /-- `SHLR4 Rn`, word `4n35`, rule R378. -/
  | shlr4 (rn : Reg)
  /-- `FMOV.S @(PC, R0), FRn`, word `4nB5`, rule R527. -/
  | fmovLoadPcR0 (rn : FReg)
  /-- `MOV.B @(PC, R0), Rn`, word `4nC5`, rule R241. -/
  | movBLoadPcR0 (rn : Reg)
  /-- `MOV.W @(PC, R0), Rn`, word `4nD5`, rule R242. -/
  | movWLoadPcR0 (rn : Reg)
  /-- `MOV.L @(PC, R0), Rn`, word `4nE5`, rule R243. -/
  | movLLoadPcR0 (rn : Reg)
  /-- `LEA.B @(PC, R0), Rn`, word `4nF5`, rule R270. -/
  | leaBPcR0 (rn : Reg)
  /-- `LDS.L @Rm+, MACH`, word `4m06`, rule R433. -/
  | ldslMach (rm : Reg)
  /-- `LDS.L @Rm+, MACL`, word `4m16`, rule R433. -/
  | ldslMacl (rm : Reg)
  /-- `LDS.L @Rm+, PR`, word `4m26`, rule R433. -/
  | ldslPr (rm : Reg)
  /-- `LDC.L @Rm+, SGR`, word `4m36`, rule R446. -/
  | ldclSgr (rm : Reg)
  /-- `LDS.L @Rm+, FPUL`, word `4m56`, rule R433. -/
  | ldslFpul (rm : Reg)
  /-- `LDS.L @Rm+, FPSCR`, word `4m66`, rule R433. -/
  | ldslFpscr (rm : Reg)
  /-- `LDC.L @Rm+, DBR`, word `4mF6`, rule R446. -/
  | ldclDbr (rm : Reg)
  /-- `LDC.L @Rm+, SR`, word `4m07`, rule R446. -/
  | ldclSr (rm : Reg)
  /-- `LDC.L @Rm+, GBR`, word `4m17`, rule R446. -/
  | ldclGbr (rm : Reg)
  /-- `LDC.L @Rm+, VBR`, word `4m27`, rule R446. -/
  | ldclVbr (rm : Reg)
  /-- `LDC.L @Rm+, SSR`, word `4m37`, rule R446. -/
  | ldclSsr (rm : Reg)
  /-- `LDC.L @Rm+, SPC`, word `4m47`, rule R446. -/
  | ldclSpc (rm : Reg)
  /-- `LDC.L @Rm+, Rn_B`, word `4mN7`, rule R447. -/
  | ldclBank (rm : Reg) (b : BReg)
  /-- `SHLL2 Rn`, word `4n08`, rule R371. -/
  | shll2 (rn : Reg)
  /-- `SHLL8 Rn`, word `4n18`, rule R373. -/
  | shll8 (rn : Reg)
  /-- `SHLL16 Rn`, word `4n28`, rule R374. -/
  | shll16 (rn : Reg)
  /-- `SHLR2 Rn`, word `4n09`, rule R377. -/
  | shlr2 (rn : Reg)
  /-- `SHLR8 Rn`, word `4n19`, rule R379. -/
  | shlr8 (rn : Reg)
  /-- `SHLR16 Rn`, word `4n29`, rule R380. -/
  | shlr16 (rn : Reg)
  /-- `LDS Rm, MACH`, word `4m0A`, rule R432. -/
  | ldsMach (rm : Reg)
  /-- `LDS Rm, MACL`, word `4m1A`, rule R432. -/
  | ldsMacl (rm : Reg)
  /-- `LDS Rm, PR`, word `4m2A`, rule R432. -/
  | ldsPr (rm : Reg)
  /-- `LDC Rm, SGR`, word `4m3A`, rule R444. -/
  | ldcSgr (rm : Reg)
  /-- `LDS Rm, FPUL`, word `4m5A`, rule R432. -/
  | ldsFpul (rm : Reg)
  /-- `LDS Rm, FPSCR`, word `4m6A`, rule R432. -/
  | ldsFpscr (rm : Reg)
  /-- `LDC Rm, DBR`, word `4mFA`, rule R444. -/
  | ldcDbr (rm : Reg)
  /-- `JSR Rm`, word `4m0B`, rule R415. -/
  | jsr (rm : Reg)
  /-- `JMP Rm`, word `4m2B`, rule R410. -/
  | jmp (rm : Reg)
  /-- `JSR/N Rm`, word `4m4B`, rule R416. -/
  | jsrN (rm : Reg)
  /-- `MOV.B R0, @Rn+`, word `4n8B`, rule R244. -/
  | movBStoreR0PostInc (rn : Reg)
  /-- `MOV.W R0, @Rn+`, word `4n9B`, rule R245. -/
  | movWStoreR0PostInc (rn : Reg)
  /-- `MOV.L R0, @Rn+`, word `4nAB`, rule R246. -/
  | movLStoreR0PostInc (rn : Reg)
  /-- `MOV.B @-Rm, R0`, word `4mCB`, rule R247. -/
  | movBLoadR0PreDec (rm : Reg)
  /-- `MOV.W @-Rm, R0`, word `4mDB`, rule R248. -/
  | movWLoadR0PreDec (rm : Reg)
  /-- `MOV.L @-Rm, R0`, word `4mEB`, rule R249. -/
  | movLLoadR0PreDec (rm : Reg)
  /-- `SHAD Rm, Rn`, word `4nmC`, rule R367. -/
  | shad (rm : Reg) (rn : Reg)
  /-- `SHLD Rm, Rn`, word `4nmD`, rule R375. -/
  | shld (rm : Reg) (rn : Reg)
  /-- `LDC Rm, SR`, word `4m0E`, rule R444. -/
  | ldcSr (rm : Reg)
  /-- `LDC Rm, GBR`, word `4m1E`, rule R444. -/
  | ldcGbr (rm : Reg)
  /-- `LDC Rm, VBR`, word `4m2E`, rule R444. -/
  | ldcVbr (rm : Reg)
  /-- `LDC Rm, SSR`, word `4m3E`, rule R444. -/
  | ldcSsr (rm : Reg)
  /-- `LDC Rm, SPC`, word `4m4E`, rule R444. -/
  | ldcSpc (rm : Reg)
  /-- `LDC Rm, Rn_B`, word `4mNE`, rule R445. -/
  | ldcBank (rm : Reg) (b : BReg)
  /-- `MOV.L @(Rm, disp4), Rn`, word `5nmd`, rule R227. -/
  | movLLoadDisp4 (rm : Reg) (disp : BitVec 4) (rn : Reg)
  /-- `MOV.B @Rm, Rn`, word `6nm0`, rule R228. -/
  | movBLoadInd (rm : Reg) (rn : Reg)
  /-- `MOV.W @Rm, Rn`, word `6nm1`, rule R229. -/
  | movWLoadInd (rm : Reg) (rn : Reg)
  /-- `MOV.L @Rm, Rn`, word `6nm2`, rule R230. -/
  | movLLoadInd (rm : Reg) (rn : Reg)
  /-- `MOV Rm, Rn`, word `6nm3`, rule R210. -/
  | mov (rm : Reg) (rn : Reg)
  /-- `MOV.B @Rm+, Rn`, word `6nm4`, rule R231. -/
  | movBLoadPostInc (rm : Reg) (rn : Reg)
  /-- `MOV.W @Rm+, Rn`, word `6nm5`, rule R232. -/
  | movWLoadPostInc (rm : Reg) (rn : Reg)
  /-- `MOV.L @Rm+, Rn`, word `6nm6`, rule R233. -/
  | movLLoadPostInc (rm : Reg) (rn : Reg)
  /-- `NOT Rm, Rn`, word `6nm7`, rule R353. -/
  | not (rm : Reg) (rn : Reg)
  /-- `SWAP.B Rm, Rn`, word `6nm8`, rule R256. -/
  | swapB (rm : Reg) (rn : Reg)
  /-- `SWAP.W Rm, Rn`, word `6nm9`, rule R257. -/
  | swapW (rm : Reg) (rn : Reg)
  /-- `NEGC Rm, Rn`, word `6nmA`, rule R336. -/
  | negc (rm : Reg) (rn : Reg)
  /-- `NEG Rm, Rn`, word `6nmB`, rule R335. -/
  | neg (rm : Reg) (rn : Reg)
  /-- `EXTU.B Rm, Rn`, word `6nmC`, rule R207. -/
  | extuB (rm : Reg) (rn : Reg)
  /-- `EXTU.W Rm, Rn`, word `6nmD`, rule R208. -/
  | extuW (rm : Reg) (rn : Reg)
  /-- `EXTS.B Rm, Rn`, word `6nmE`, rule R205. -/
  | extsB (rm : Reg) (rn : Reg)
  /-- `EXTS.W Rm, Rn`, word `6nmF`, rule R206. -/
  | extsW (rm : Reg) (rn : Reg)
  /-- `ADD #imm8s, Rn`, word `7nii`, rule R301. -/
  | addImm8 (imm : BitVec 8) (rn : Reg)
  /-- `MOV.B R0, @(Rn, disp4)`, word `80nd`, rule R234. -/
  | movBStoreR0Disp4 (rn : Reg) (disp : BitVec 4)
  /-- `MOV.W R0, @(Rn, disp4)`, word `81nd`, rule R235. -/
  | movWStoreR0Disp4 (rn : Reg) (disp : BitVec 4)
  /-- `BRA/N label8s`, word `82dd`, rule R406. -/
  | braN8 (label : BitVec 8)
  /-- `MOV.B @(Rm, disp4), R0`, word `84md`, rule R236. -/
  | movBLoadR0Disp4 (rm : Reg) (disp : BitVec 4)
  /-- `MOV.W @(Rm, disp4), R0`, word `85md`, rule R237. -/
  | movWLoadR0Disp4 (rm : Reg) (disp : BitVec 4)
  /-- `CMPEQ #imm8s, R0`, word `88ii`, rule R306. -/
  | cmpEqImm8 (imm : BitVec 8)
  /-- `BT label8s`, word `89dd`, rule R419. -/
  | bt8 (label : BitVec 8)
  /-- `MOVI24 #imm24, R0`, word `8Aii-iiii`, rule R213. -/
  | movi24 (imm : BitVec 24)
  /-- `BF label8s`, word `8Bdd`, rule R403. -/
  | bf8 (label : BitVec 8)
  /-- `BT/S label8s`, word `8Ddd`, rule R420. -/
  | btS8 (label : BitVec 8)
  /-- `BF/S label8s`, word `8Fdd`, rule R404. -/
  | bfS8 (label : BitVec 8)
  /-- `MOV.W @(PC, disp8), Rn`, word `9ndd`, rule R250. -/
  | movWLoadPcDisp (disp : BitVec 8) (rn : Reg)
  /-- `BRA label12s`, word `Addd`, rule R405. -/
  | bra (label : BitVec 12)
  /-- `BSR label12s`, word `Bddd`, rule R412. -/
  | bsr (label : BitVec 12)
  /-- `MOV.B R0, @(GBR, disp8)`, word `C0dd`, rule R274. -/
  | movBStoreGbr8 (disp : BitVec 8)
  /-- `MOV.W R0, @(GBR, disp8)`, word `C1dd`, rule R274. -/
  | movWStoreGbr8 (disp : BitVec 8)
  /-- `MOV.L R0, @(GBR, disp8)`, word `C2dd`, rule R274. -/
  | movLStoreGbr8 (disp : BitVec 8)
  /-- `TRAPA #imm8`, word `C3jj`, rule R472. -/
  | trapa (imm : BitVec 8)
  /-- `MOV.B @(GBR, disp8), R0`, word `C4dd`, rule R275. -/
  | movBLoadGbr8 (disp : BitVec 8)
  /-- `MOV.W @(GBR, disp8), R0`, word `C5dd`, rule R275. -/
  | movWLoadGbr8 (disp : BitVec 8)
  /-- `MOV.L @(GBR, disp8), R0`, word `C6dd`, rule R275. -/
  | movLLoadGbr8 (disp : BitVec 8)
  /-- `MOVA @(PC, disp8), R0`, word `C7dd`, rule R254. -/
  | mova (disp : BitVec 8)
  /-- `TST #imm8, R0`, word `C8jj`, rule R358. -/
  | tstImm8 (imm : BitVec 8)
  /-- `AND #imm8, R0`, word `C9jj`, rule R351. -/
  | andImm8 (imm : BitVec 8)
  /-- `XOR #imm8, R0`, word `CAjj`, rule R360. -/
  | xorImm8 (imm : BitVec 8)
  /-- `OR #imm8, R0`, word `CBjj`, rule R355. -/
  | orImm8 (imm : BitVec 8)
  /-- `MOV.L @(PC, disp8), Rn`, word `Dndd`, rule R251. -/
  | movLLoadPcDisp (disp : BitVec 8) (rn : Reg)
  /-- `MOV #imm8s, Rn`, word `Enii`, rule R211. -/
  | movImm8 (imm : BitVec 8) (rn : Reg)
  /-- `FADD FRm, FRn`, word `Fnm0`, rule R510. -/
  | fadd (rm : FReg) (rn : FReg)
  /-- `FSUB FRm, FRn`, word `Fnm1`, rule R511. -/
  | fsub (rm : FReg) (rn : FReg)
  /-- `FMUL FRm, FRn`, word `Fnm2`, rule R512. -/
  | fmul (rm : FReg) (rn : FReg)
  /-- `FDIV FRm, FRn`, word `Fnm3`, rule R513. -/
  | fdiv (rm : FReg) (rn : FReg)
  /-- `FCMPEQ FRm, FRn`, word `Fnm4`, rule R514. -/
  | fcmpEq (rm : FReg) (rn : FReg)
  /-- `FCMPGT FRm, FRn`, word `Fnm5`, rule R515. -/
  | fcmpGt (rm : FReg) (rn : FReg)
  /-- `FMOV.S @(R0, Rm), FRn`, word `Fnm6`, rule R523. -/
  | fmovLoadR0Idx (rm : Reg) (rn : FReg)
  /-- `FMOV.S FRm, @(R0, Rn)`, word `Fnm7`, rule R523. -/
  | fmovStoreR0Idx (rm : FReg) (rn : Reg)
  /-- `FMOV.S @Rm, FRn`, word `Fnm8`, rule R523. -/
  | fmovLoadInd (rm : Reg) (rn : FReg)
  /-- `FMOV.S @Rm+, FRn`, word `Fnm9`, rule R523. -/
  | fmovLoadPostInc (rm : Reg) (rn : FReg)
  /-- `FMOV.S FRm, @Rn`, word `FnmA`, rule R523. -/
  | fmovStoreInd (rm : FReg) (rn : Reg)
  /-- `FMOV.S FRm, @-Rn`, word `FnmB`, rule R523. -/
  | fmovStorePreDec (rm : FReg) (rn : Reg)
  /-- `FMOV FRm, FRn`, word `FnmC`, rule R521. -/
  | fmov (rm : FReg) (rn : FReg)
  /-- `FSTS FRn`, word `Fn0D`, rule R530. -/
  | fsts (rn : FReg)
  /-- `FLDS FRm`, word `Fm1D`, rule R531. -/
  | flds (rm : FReg)
  /-- `FLOAT FRn`, word `Fn2D`, rule R532. -/
  | float (rn : FReg)
  /-- `FTRC FRm`, word `Fm3D`, rule R533. -/
  | ftrc (rm : FReg)
  /-- `FNEG FRn`, word `Fn4D`, rule R516. -/
  | fneg (rn : FReg)
  /-- `FABS FRn`, word `Fn5D`, rule R517. -/
  | fabs (rn : FReg)
  /-- `FSQRT FRn`, word `Fn6D`, rule R518. -/
  | fsqrt (rn : FReg)
  /-- `FLDI0 FRn`, word `Fn8D`, rule R534. -/
  | fldi0 (rn : FReg)
  /-- `FLDI1 FRn`, word `Fn9D`, rule R535. -/
  | fldi1 (rn : FReg)
  /-- `FCNVSD FRn`, word `FnAD`, rule R536. -/
  | fcnvsd (rn : FReg)
  /-- `FCNVDS FRm`, word `FmBD`, rule R545. -/
  | fcnvds (rm : FReg)
  /-- `PSETMD #imm4`, word `FiDD`, rule R540. -/
  | psetmd (imm : BitVec 4)
  /-- `FSCHG`, word `F3FD`, rule R542. -/
  | fschg
  /-- `FPCHG`, word `F7FD`, rule R543. -/
  | fpchg
  /-- `FRCHG`, word `FBFD`, rule R544. -/
  | frchg
  /-- `FMAC FRm, FRn`, word `FnmE`, rule R519. -/
  | fmac (rm : FReg) (rn : FReg)
  /-- `MOV.B Rm, @(Rn, Ro, disp4)`, word `8Eod-0nm4`, rule R276. -/
  | movBStoreIdx4 (rm : Reg) (rn : Reg) (ro : Reg) (disp : BitVec 4)
  /-- `MOV.W Rm, @(Rn, Ro, disp4)`, word `8Eod-0nm5`, rule R276. -/
  | movWStoreIdx4 (rm : Reg) (rn : Reg) (ro : Reg) (disp : BitVec 4)
  /-- `MOV.L Rm, @(Rn, Ro, disp4)`, word `8Eod-0nm6`, rule R276. -/
  | movLStoreIdx4 (rm : Reg) (rn : Reg) (ro : Reg) (disp : BitVec 4)
  /-- `MOV.B @(Rm, Ro, disp4), Rn`, word `8Eod-0nmC`, rule R277. -/
  | movBLoadIdx4 (rm : Reg) (ro : Reg) (disp : BitVec 4) (rn : Reg)
  /-- `MOV.W @(Rm, Ro, disp4), Rn`, word `8Eod-0nmD`, rule R277. -/
  | movWLoadIdx4 (rm : Reg) (ro : Reg) (disp : BitVec 4) (rn : Reg)
  /-- `MOV.L @(Rm, Ro, disp4), Rn`, word `8Eod-0nmE`, rule R277. -/
  | movLLoadIdx4 (rm : Reg) (ro : Reg) (disp : BitVec 4) (rn : Reg)
  /-- `MOV.L Rm, @(Rn, Ro, disp8s)`, word `8Edd-1nmo`, rule R278. -/
  | movLStoreIdx8 (rm : Reg) (rn : Reg) (ro : Reg) (disp : BitVec 8)
  /-- `MOV.B Rm, @(Rn, disp8s)`, word `8Edd-2nm0`, rule R279. -/
  | movBStoreDisp8 (rm : Reg) (rn : Reg) (disp : BitVec 8)
  /-- `MOV.W Rm, @(Rn, disp8s)`, word `8Edd-2nm1`, rule R279. -/
  | movWStoreDisp8 (rm : Reg) (rn : Reg) (disp : BitVec 8)
  /-- `MOV.L Rm, @(Rn, disp8s)`, word `8Edd-2nm2`, rule R279. -/
  | movLStoreDisp8 (rm : Reg) (rn : Reg) (disp : BitVec 8)
  /-- `FMOV.S FRm, @(Rn, disp8s)`, word `8Edd-2nm4`, rule R528. -/
  | fmovStoreDisp8 (rm : FReg) (rn : Reg) (disp : BitVec 8)
  /-- `FMOV.S @(Rm, disp8s), FRn`, word `8Edd-2nm6`, rule R528. -/
  | fmovLoadDisp8 (rm : Reg) (disp : BitVec 8) (rn : FReg)
  /-- `AND Rm, #imm8, Rn`, word `8Ejj-2nm9`, rule R352. -/
  | and3Imm8 (rm : Reg) (imm : BitVec 8) (rn : Reg)
  /-- `XOR Rm, #imm8, Rn`, word `8Ejj-2nmA`, rule R361. -/
  | xor3Imm8 (rm : Reg) (imm : BitVec 8) (rn : Reg)
  /-- `OR Rm, #imm8, Rn`, word `8Ejj-2nmB`, rule R356. -/
  | or3Imm8 (rm : Reg) (imm : BitVec 8) (rn : Reg)
  /-- `MUL Rm, #imm8, Rn`, word `8Ejj-2nmE`, rule R330. -/
  | mul3Imm8 (rm : Reg) (imm : BitVec 8) (rn : Reg)
  /-- `MUL Rm, #-imm8, Rn`, word `8Ejj-2nmF`, rule R330. -/
  | mul3NegImm8 (rm : Reg) (imm : BitVec 8) (rn : Reg)
  /-- `CMPEQ #imm12s, Rn`, word `8Eii-3ni0`, rule R306. -/
  | cmpEqImm12 (imm : BitVec 12) (rn : Reg)
  /-- `CMPHS #imm12s, Rn`, word `8Eii-3ni2`, rule R310. -/
  | cmpHsImm12 (imm : BitVec 12) (rn : Reg)
  /-- `CMPGE #imm12s, Rn`, word `8Eii-3ni3`, rule R307. -/
  | cmpGeImm12 (imm : BitVec 12) (rn : Reg)
  /-- `CMPHI #imm12s, Rn`, word `8Eii-3ni6`, rule R309. -/
  | cmpHiImm12 (imm : BitVec 12) (rn : Reg)
  /-- `CMPGT #imm12s, Rn`, word `8Eii-3ni7`, rule R308. -/
  | cmpGtImm12 (imm : BitVec 12) (rn : Reg)
  /-- `SUB Rm, #imm8, Rn`, word `8Ejj-3nm8`, rule R341. -/
  | sub3Imm8 (rm : Reg) (imm : BitVec 8) (rn : Reg)
  /-- `AND Rm, #-imm8, Rn`, word `8Ejj-3nm9`, rule R352. -/
  | and3NegImm8 (rm : Reg) (imm : BitVec 8) (rn : Reg)
  /-- `ADD Rm, #imm8, Rn`, word `8Ejj-3nmC`, rule R302. -/
  | add3Imm8 (rm : Reg) (imm : BitVec 8) (rn : Reg)
  /-- `ADD Rs, Rt, Rn`, word `8Est-4n03`, rule R302. -/
  | add3 (rs : Reg) (rt : Reg) (rn : Reg)
  /-- `SUB Rs, Rt, Rn`, word `8Est-4n13`, rule R341. -/
  | sub3 (rs : Reg) (rt : Reg) (rn : Reg)
  /-- `MUL Rs, Rt, Rn`, word `8Est-4n23`, rule R330. -/
  | mul3 (rs : Reg) (rt : Reg) (rn : Reg)
  /-- `AND Rs, Rt, Rn`, word `8Est-4n33`, rule R352. -/
  | and3 (rs : Reg) (rt : Reg) (rn : Reg)
  /-- `OR Rs, Rt, Rn`, word `8Est-4n43`, rule R356. -/
  | or3 (rs : Reg) (rt : Reg) (rn : Reg)
  /-- `XOR Rs, Rt, Rn`, word `8Est-4n53`, rule R361. -/
  | xor3 (rs : Reg) (rt : Reg) (rn : Reg)
  /-- `SHLD Rs, Rt, Rn`, word `8Est-4n63`, rule R382. -/
  | shld3 (rs : Reg) (rt : Reg) (rn : Reg)
  /-- `SHLR Rs, Rt, Rn`, word `8Est-4n73`, rule R383. -/
  | shlr3 (rs : Reg) (rt : Reg) (rn : Reg)
  /-- `SHAD Rs, Rt, Rn`, word `8Est-4n83`, rule R381. -/
  | shad3 (rs : Reg) (rt : Reg) (rn : Reg)
  /-- `SHAR Rs, Rt, Rn`, word `8Est-4n93`, rule R384. -/
  | shar3 (rs : Reg) (rt : Reg) (rn : Reg)
  /-- `CSELT Rs, Rt, Rn`, word `8Est-4nA3`, rule R314. -/
  | cselt (rs : Reg) (rt : Reg) (rn : Reg)
  /-- `FADD FRs, FRt, FRn`, word `8Est-4nC3`, rule R520. -/
  | fadd3 (rs : FReg) (rt : FReg) (rn : FReg)
  /-- `FSUB FRs, FRt, FRn`, word `8Est-4nD3`, rule R520. -/
  | fsub3 (rs : FReg) (rt : FReg) (rn : FReg)
  /-- `FMUL FRs, FRt, FRn`, word `8Est-4nE3`, rule R520. -/
  | fmul3 (rs : FReg) (rt : FReg) (rn : FReg)
  /-- `FDIV FRs, FRt, FRn`, word `8Est-4nF3`, rule R520. -/
  | fdiv3 (rs : FReg) (rt : FReg) (rn : FReg)
  /-- `SHAD Rm, #imm8s, Rn`, word `8Eii-4nmC`, rule R381. -/
  | shad3Imm8 (rm : Reg) (imm : BitVec 8) (rn : Reg)
  /-- `SHLD Rm, #imm8s, Rn`, word `8Eii-4nmD`, rule R382. -/
  | shld3Imm8 (rm : Reg) (imm : BitVec 8) (rn : Reg)
  /-- `MOVU.B @(Rm, Ro), Rn`, word `8Emo-4n0E`, rule R280. -/
  | movuBLoadIdx (rm : Reg) (ro : Reg) (rn : Reg)
  /-- `MOVU.W @(Rm, Ro), Rn`, word `8Emo-4n1E`, rule R280. -/
  | movuWLoadIdx (rm : Reg) (ro : Reg) (rn : Reg)
  /-- `FMOV.S @(Rm, Ro), FRn`, word `8Emo-4n2E`, rule R529. -/
  | fmovLoadIdx (rm : Reg) (ro : Reg) (rn : FReg)
  /-- `FMOV.S FRm, @(Rn, Ro)`, word `8Emo-4n3E`, rule R529. -/
  | fmovStoreIdx (rm : FReg) (rn : Reg) (ro : Reg)
  /-- `MOV.L @(Rm, Ro, disp8s), Rn`, word `8Edd-5nmo`, rule R278. -/
  | movLLoadIdx8 (rm : Reg) (ro : Reg) (disp : BitVec 8) (rn : Reg)
  /-- `MOV.B @(Rm, disp8s), Rn`, word `8Edd-6nm0`, rule R281. -/
  | movBLoadDisp8 (rm : Reg) (disp : BitVec 8) (rn : Reg)
  /-- `MOV.W @(Rm, disp8s), Rn`, word `8Edd-6nm1`, rule R281. -/
  | movWLoadDisp8 (rm : Reg) (disp : BitVec 8) (rn : Reg)
  /-- `MOV.L @(Rm, disp8s), Rn`, word `8Edd-6nm2`, rule R281. -/
  | movLLoadDisp8 (rm : Reg) (disp : BitVec 8) (rn : Reg)
  /-- `LEA.B @(Rm, Ro, disp4), Rn`, word `8Eod-6nm4`, rule R271. -/
  | leaBIdx4 (rm : Reg) (ro : Reg) (disp : BitVec 4) (rn : Reg)
  /-- `LEA.W @(Rm, Ro, disp4), Rn`, word `8Eod-6nm5`, rule R271. -/
  | leaWIdx4 (rm : Reg) (ro : Reg) (disp : BitVec 4) (rn : Reg)
  /-- `LEA.L @(Rm, Ro, disp4), Rn`, word `8Eod-6nm6`, rule R271. -/
  | leaLIdx4 (rm : Reg) (ro : Reg) (disp : BitVec 4) (rn : Reg)
  /-- `LEA.Q @(Rm, Ro, disp4), Rn`, word `8Eod-6nm7`, rule R271. -/
  | leaQIdx4 (rm : Reg) (ro : Reg) (disp : BitVec 4) (rn : Reg)
  /-- `LEA.B @(Rm, disp8s), Rn`, word `8Edd-6nm8`, rule R272. -/
  | leaBDisp8 (rm : Reg) (disp : BitVec 8) (rn : Reg)
  /-- `LEA.W @(Rm, disp8s), Rn`, word `8Edd-6nm9`, rule R272. -/
  | leaWDisp8 (rm : Reg) (disp : BitVec 8) (rn : Reg)
  /-- `LEA.L @(Rm, disp8s), Rn`, word `8Edd-6nmA`, rule R272. -/
  | leaLDisp8 (rm : Reg) (disp : BitVec 8) (rn : Reg)
  /-- `LEA.Q @(Rm, disp8s), Rn`, word `8Edd-6nmB`, rule R272. -/
  | leaQDisp8 (rm : Reg) (disp : BitVec 8) (rn : Reg)
  /-- `MOVU.B @(Rm, disp8s), Rn`, word `8Edd-6nmC`, rule R282. -/
  | movuBLoadDisp8 (rm : Reg) (disp : BitVec 8) (rn : Reg)
  /-- `MOVU.W @(Rm, disp8s), Rn`, word `8Edd-6nmD`, rule R282. -/
  | movuWLoadDisp8 (rm : Reg) (disp : BitVec 8) (rn : Reg)
  /-- `ADD #imm16s, Rn`, word `8Eii-7nii`, rule R301. -/
  | addImm16 (imm : BitVec 16) (rn : Reg)
  /-- `BRA/N label16s`, word `8Edd-82dd`, rule R406. -/
  | braN16 (label : BitVec 16)
  /-- `BSR/N label16s`, word `8Edd-83dd`, rule R413. -/
  | bsrN16 (label : BitVec 16)
  /-- `CMPEQ #imm16s, R0`, word `8Eii-88ii`, rule R306. -/
  | cmpEqImm16 (imm : BitVec 16)
  /-- `BT label16s`, word `8Edd-89dd`, rule R419. -/
  | bt16 (label : BitVec 16)
  /-- `LDHF16 #imm16, FPUL`, word `8Eii-8Aii`, rule R537. -/
  | ldhf16Imm (imm : BitVec 16)
  /-- `BF label16s`, word `8Edd-8Bdd`, rule R403. -/
  | bf16 (label : BitVec 16)
  /-- `LDIF16 #imm16, FPUL`, word `8Eii-8Cii`, rule R538. -/
  | ldif16 (imm : BitVec 16)
  /-- `BT/S label16s`, word `8Edd-8Ddd`, rule R420. -/
  | btS16 (label : BitVec 16)
  /-- `BF/S label16s`, word `8Edd-8Fdd`, rule R404. -/
  | bfS16 (label : BitVec 16)
  /-- `LDSH16 #imm16s, Rn`, word `8Eii-9nii`, rule R212. -/
  | ldsh16 (imm : BitVec 16) (rn : Reg)
  /-- `MOV.B Rm, @(GBR, disp12)`, word `8Edd-C0md`, rule R283. -/
  | movBStoreGbr12 (rm : Reg) (disp : BitVec 12)
  /-- `MOV.W Rm, @(GBR, disp12)`, word `8Edd-C1md`, rule R283. -/
  | movWStoreGbr12 (rm : Reg) (disp : BitVec 12)
  /-- `MOV.L Rm, @(GBR, disp12)`, word `8Edd-C2md`, rule R283. -/
  | movLStoreGbr12 (rm : Reg) (disp : BitVec 12)
  /-- `MOV.B @(GBR, disp12), Rn`, word `8Edd-C4nd`, rule R284. -/
  | movBLoadGbr12 (disp : BitVec 12) (rn : Reg)
  /-- `MOV.W @(GBR, disp12), Rn`, word `8Edd-C5nd`, rule R284. -/
  | movWLoadGbr12 (disp : BitVec 12) (rn : Reg)
  /-- `MOV.L @(GBR, disp12), Rn`, word `8Edd-C6nd`, rule R284. -/
  | movLLoadGbr12 (disp : BitVec 12) (rn : Reg)
  /-- `TST #imm12, Rn`, word `8Eii-C8nj`, rule R358. -/
  | tstImm12 (imm : BitVec 12) (rn : Reg)
  /-- `AND #imm12s, Rn`, word `8Eii-C9nj`, rule R351. -/
  | andImm12 (imm : BitVec 12) (rn : Reg)
  /-- `XOR #imm12, Rn`, word `8Ejj-CAnj`, rule R360. -/
  | xorImm12 (imm : BitVec 12) (rn : Reg)
  /-- `OR #imm12, Rn`, word `8Ejj-CBnj`, rule R355. -/
  | orImm12 (imm : BitVec 12) (rn : Reg)
  /-- `MOV #imm16s, Rn`, word `8Eii-Enii`, rule R211. -/
  | movImm16 (imm : BitVec 16) (rn : Reg)
  deriving DecidableEq, Repr

/-- Whether the instruction is a 32-bit form (30_encoding.md R120, R121). -/
def Instr.wide : Instr → Bool
  | .stcSr _ => false
  | .stcGbr _ => false
  | .stcVbr _ => false
  | .stcSsr _ => false
  | .stcSpc _ => false
  | .stcBank _ _ => false
  | .bsrf _ => false
  | .braf _ => false
  | .pref _ => false
  | .movcaL _ => false
  | .icbi _ => false
  | .movBStoreR0Idx _ _ => false
  | .movWStoreR0Idx _ _ => false
  | .movLStoreR0Idx _ _ => false
  | .mulL _ _ => false
  | .clrt => false
  | .sett => false
  | .clrmac => false
  | .ldtlb => false
  | .clrs => false
  | .sets => false
  | .nott => false
  | .nop _ => false
  | .div0u => false
  | .movt _ => false
  | .movrt _ => false
  | .stsMach _ => false
  | .stsMacl _ => false
  | .stsPr _ => false
  | .stcSgr _ => false
  | .stsFpul _ => false
  | .stsFpscr _ => false
  | .stcDbr _ => false
  | .rts => false
  | .sleep => false
  | .rte => false
  | .brk => false
  | .rtsN => false
  | .movBLoadR0Idx _ _ => false
  | .movWLoadR0Idx _ _ => false
  | .movLLoadR0Idx _ _ => false
  | .movLStoreDisp4 _ _ _ => false
  | .movBStoreInd _ _ => false
  | .movWStoreInd _ _ => false
  | .movLStoreInd _ _ => false
  | .casL _ _ => false
  | .movBStorePreDec _ _ => false
  | .movWStorePreDec _ _ => false
  | .movLStorePreDec _ _ => false
  | .div0s _ _ => false
  | .tst _ _ => false
  | .and _ _ => false
  | .xor _ _ => false
  | .or _ _ => false
  | .cmpStr _ _ => false
  | .xtrct _ _ => false
  | .muluW _ _ => false
  | .mulsW _ _ => false
  | .cmpEq _ _ => false
  | .cmpHs _ _ => false
  | .cmpGe _ _ => false
  | .div1 _ _ => false
  | .dmuluL _ _ => false
  | .cmpHi _ _ => false
  | .cmpGt _ _ => false
  | .sub _ _ => false
  | .subc _ _ => false
  | .subv _ _ => false
  | .add _ _ => false
  | .dmulsL _ _ => false
  | .addc _ _ => false
  | .addv _ _ => false
  | .shll _ => false
  | .dt _ => false
  | .shal _ => false
  | .shlr _ => false
  | .cmpPz _ => false
  | .shar _ => false
  | .sthf16 _ => false
  | .ldhf16 _ => false
  | .fmovStorePcR0 _ => false
  | .movBStorePcR0 _ => false
  | .movWStorePcR0 _ => false
  | .movLStorePcR0 _ => false
  | .stslMach _ => false
  | .stslMacl _ => false
  | .stslPr _ => false
  | .stclSgr _ => false
  | .stslFpul _ => false
  | .stslFpscr _ => false
  | .stclDbr _ => false
  | .stclSr _ => false
  | .stclGbr _ => false
  | .stclVbr _ => false
  | .stclSsr _ => false
  | .stclSpc _ => false
  | .stclBank _ _ => false
  | .rotl _ => false
  | .rotcl _ => false
  | .shll4 _ => false
  | .rotr _ => false
  | .cmpPl _ => false
  | .rotcr _ => false
  | .shlr4 _ => false
  | .fmovLoadPcR0 _ => false
  | .movBLoadPcR0 _ => false
  | .movWLoadPcR0 _ => false
  | .movLLoadPcR0 _ => false
  | .leaBPcR0 _ => false
  | .ldslMach _ => false
  | .ldslMacl _ => false
  | .ldslPr _ => false
  | .ldclSgr _ => false
  | .ldslFpul _ => false
  | .ldslFpscr _ => false
  | .ldclDbr _ => false
  | .ldclSr _ => false
  | .ldclGbr _ => false
  | .ldclVbr _ => false
  | .ldclSsr _ => false
  | .ldclSpc _ => false
  | .ldclBank _ _ => false
  | .shll2 _ => false
  | .shll8 _ => false
  | .shll16 _ => false
  | .shlr2 _ => false
  | .shlr8 _ => false
  | .shlr16 _ => false
  | .ldsMach _ => false
  | .ldsMacl _ => false
  | .ldsPr _ => false
  | .ldcSgr _ => false
  | .ldsFpul _ => false
  | .ldsFpscr _ => false
  | .ldcDbr _ => false
  | .jsr _ => false
  | .jmp _ => false
  | .jsrN _ => false
  | .movBStoreR0PostInc _ => false
  | .movWStoreR0PostInc _ => false
  | .movLStoreR0PostInc _ => false
  | .movBLoadR0PreDec _ => false
  | .movWLoadR0PreDec _ => false
  | .movLLoadR0PreDec _ => false
  | .shad _ _ => false
  | .shld _ _ => false
  | .ldcSr _ => false
  | .ldcGbr _ => false
  | .ldcVbr _ => false
  | .ldcSsr _ => false
  | .ldcSpc _ => false
  | .ldcBank _ _ => false
  | .movLLoadDisp4 _ _ _ => false
  | .movBLoadInd _ _ => false
  | .movWLoadInd _ _ => false
  | .movLLoadInd _ _ => false
  | .mov _ _ => false
  | .movBLoadPostInc _ _ => false
  | .movWLoadPostInc _ _ => false
  | .movLLoadPostInc _ _ => false
  | .not _ _ => false
  | .swapB _ _ => false
  | .swapW _ _ => false
  | .negc _ _ => false
  | .neg _ _ => false
  | .extuB _ _ => false
  | .extuW _ _ => false
  | .extsB _ _ => false
  | .extsW _ _ => false
  | .addImm8 _ _ => false
  | .movBStoreR0Disp4 _ _ => false
  | .movWStoreR0Disp4 _ _ => false
  | .braN8 _ => false
  | .movBLoadR0Disp4 _ _ => false
  | .movWLoadR0Disp4 _ _ => false
  | .cmpEqImm8 _ => false
  | .bt8 _ => false
  | .movi24 _ => true
  | .bf8 _ => false
  | .btS8 _ => false
  | .bfS8 _ => false
  | .movWLoadPcDisp _ _ => false
  | .bra _ => false
  | .bsr _ => false
  | .movBStoreGbr8 _ => false
  | .movWStoreGbr8 _ => false
  | .movLStoreGbr8 _ => false
  | .trapa _ => false
  | .movBLoadGbr8 _ => false
  | .movWLoadGbr8 _ => false
  | .movLLoadGbr8 _ => false
  | .mova _ => false
  | .tstImm8 _ => false
  | .andImm8 _ => false
  | .xorImm8 _ => false
  | .orImm8 _ => false
  | .movLLoadPcDisp _ _ => false
  | .movImm8 _ _ => false
  | .fadd _ _ => false
  | .fsub _ _ => false
  | .fmul _ _ => false
  | .fdiv _ _ => false
  | .fcmpEq _ _ => false
  | .fcmpGt _ _ => false
  | .fmovLoadR0Idx _ _ => false
  | .fmovStoreR0Idx _ _ => false
  | .fmovLoadInd _ _ => false
  | .fmovLoadPostInc _ _ => false
  | .fmovStoreInd _ _ => false
  | .fmovStorePreDec _ _ => false
  | .fmov _ _ => false
  | .fsts _ => false
  | .flds _ => false
  | .float _ => false
  | .ftrc _ => false
  | .fneg _ => false
  | .fabs _ => false
  | .fsqrt _ => false
  | .fldi0 _ => false
  | .fldi1 _ => false
  | .fcnvsd _ => false
  | .fcnvds _ => false
  | .psetmd _ => false
  | .fschg => false
  | .fpchg => false
  | .frchg => false
  | .fmac _ _ => false
  | .movBStoreIdx4 _ _ _ _ => true
  | .movWStoreIdx4 _ _ _ _ => true
  | .movLStoreIdx4 _ _ _ _ => true
  | .movBLoadIdx4 _ _ _ _ => true
  | .movWLoadIdx4 _ _ _ _ => true
  | .movLLoadIdx4 _ _ _ _ => true
  | .movLStoreIdx8 _ _ _ _ => true
  | .movBStoreDisp8 _ _ _ => true
  | .movWStoreDisp8 _ _ _ => true
  | .movLStoreDisp8 _ _ _ => true
  | .fmovStoreDisp8 _ _ _ => true
  | .fmovLoadDisp8 _ _ _ => true
  | .and3Imm8 _ _ _ => true
  | .xor3Imm8 _ _ _ => true
  | .or3Imm8 _ _ _ => true
  | .mul3Imm8 _ _ _ => true
  | .mul3NegImm8 _ _ _ => true
  | .cmpEqImm12 _ _ => true
  | .cmpHsImm12 _ _ => true
  | .cmpGeImm12 _ _ => true
  | .cmpHiImm12 _ _ => true
  | .cmpGtImm12 _ _ => true
  | .sub3Imm8 _ _ _ => true
  | .and3NegImm8 _ _ _ => true
  | .add3Imm8 _ _ _ => true
  | .add3 _ _ _ => true
  | .sub3 _ _ _ => true
  | .mul3 _ _ _ => true
  | .and3 _ _ _ => true
  | .or3 _ _ _ => true
  | .xor3 _ _ _ => true
  | .shld3 _ _ _ => true
  | .shlr3 _ _ _ => true
  | .shad3 _ _ _ => true
  | .shar3 _ _ _ => true
  | .cselt _ _ _ => true
  | .fadd3 _ _ _ => true
  | .fsub3 _ _ _ => true
  | .fmul3 _ _ _ => true
  | .fdiv3 _ _ _ => true
  | .shad3Imm8 _ _ _ => true
  | .shld3Imm8 _ _ _ => true
  | .movuBLoadIdx _ _ _ => true
  | .movuWLoadIdx _ _ _ => true
  | .fmovLoadIdx _ _ _ => true
  | .fmovStoreIdx _ _ _ => true
  | .movLLoadIdx8 _ _ _ _ => true
  | .movBLoadDisp8 _ _ _ => true
  | .movWLoadDisp8 _ _ _ => true
  | .movLLoadDisp8 _ _ _ => true
  | .leaBIdx4 _ _ _ _ => true
  | .leaWIdx4 _ _ _ _ => true
  | .leaLIdx4 _ _ _ _ => true
  | .leaQIdx4 _ _ _ _ => true
  | .leaBDisp8 _ _ _ => true
  | .leaWDisp8 _ _ _ => true
  | .leaLDisp8 _ _ _ => true
  | .leaQDisp8 _ _ _ => true
  | .movuBLoadDisp8 _ _ _ => true
  | .movuWLoadDisp8 _ _ _ => true
  | .addImm16 _ _ => true
  | .braN16 _ => true
  | .bsrN16 _ => true
  | .cmpEqImm16 _ => true
  | .bt16 _ => true
  | .ldhf16Imm _ => true
  | .bf16 _ => true
  | .ldif16 _ => true
  | .btS16 _ => true
  | .bfS16 _ => true
  | .ldsh16 _ _ => true
  | .movBStoreGbr12 _ _ => true
  | .movWStoreGbr12 _ _ => true
  | .movLStoreGbr12 _ _ => true
  | .movBLoadGbr12 _ _ => true
  | .movWLoadGbr12 _ _ => true
  | .movLLoadGbr12 _ _ => true
  | .tstImm12 _ _ => true
  | .andImm12 _ _ => true
  | .xorImm12 _ _ => true
  | .orImm12 _ _ => true
  | .movImm16 _ _ => true

/-- The bytes the instruction occupies (30_encoding.md R120). -/
def Instr.size (i : Instr) : Word := if i.wide then 4 else 2

end Sys2Proof
end

