-- ==== Sys2Proof/WellFormed.lean ====
section
/-! DEFINITION. Which instructions the encodings admit, and which of those the spec gives a meaning. -/

namespace Sys2Proof

/-- The instruction has an encoding of its own: the only value an operand field may not take is a NOP immediate
of 15, whose word `0F09` is unassigned (30_encoding.md R162). -/
def Instr.encodable : Instr → Bool
  | .nop imm => imm != 15
  | _ => true

/-- An index register number the scaled-index modes define: any but R15 (40_data_transfer.md R203,
30_encoding.md R164, 90_conflicts.md C10). -/
def indexDefined (ro : Reg) : Bool := ro != 15

/-- An index register number LEA defines: neither R0 nor R15 (40_data_transfer.md R271, 90_conflicts.md C11). -/
def leaIndexDefined (ro : Reg) : Bool := ro != 0 && ro != 15

/-- The operand values are none of the reserved ones of 30_encoding.md R164. -/
def Instr.operandsDefined : Instr → Bool
  | .movBStoreIdx4 _ _ ro _ | .movWStoreIdx4 _ _ ro _ | .movLStoreIdx4 _ _ ro _ => indexDefined ro
  | .movBLoadIdx4 _ ro _ _ | .movWLoadIdx4 _ ro _ _ | .movLLoadIdx4 _ ro _ _ => indexDefined ro
  | .movLStoreIdx8 _ _ ro _ | .movLLoadIdx8 _ ro _ _ => indexDefined ro
  | .movuBLoadIdx _ ro _ | .movuWLoadIdx _ ro _ => indexDefined ro
  | .fmovLoadIdx _ ro _ | .fmovStoreIdx _ _ ro => indexDefined ro
  | .leaBIdx4 _ ro _ _ | .leaWIdx4 _ ro _ _ | .leaLIdx4 _ ro _ _ | .leaQIdx4 _ ro _ _ => leaIndexDefined ro
  | _ => true

/-- A well-formed instruction: it has an encoding, and its operand values are defined. -/
def Instr.wellFormed (i : Instr) : Bool := i.encodable && i.operandsDefined

end Sys2Proof
end

