-- ==== Sys2Proof/Decode.lean ====
section
/-! DEFINITION. From the bits of an instruction to the instruction, and back (30_encoding.md).
The decoder is total and rejects by name: every word is defined, unassigned, out of scope or deprecated (R150).
The section is noncomputable because Lean's code generator has no tag for the constructors of `Instr` past the 245th;
the kernel evaluates every definition here. -/

noncomputable section

namespace Sys2Proof

/-- What the decoder reads from the words at the pc (30_encoding.md R150). -/
inductive Decoded where
  /-- A defined encoding, with its row in spec/opcode_table.json. -/
  | instr (i : Instr)
  /-- Shown as `-` or absent: raises RESINST, or ILLSLOT in a slot (R160). -/
  | unassigned
  /-- Shown as `!`, reserved or not available: the spec gives it no meaning (R161). -/
  | outOfScope
  /-- Shown as `!/`: reserved for the named form, refused by name (R163). -/
  | deprecated (form : String)
  deriving DecidableEq, Repr

/-- Four nibbles make a word, the first the most significant (00_scope.md R7). -/
def word16 (a b c d : Nib) : Half := a ++ b ++ c ++ d

/-- Nibble `k` of a value, nibble 0 the least significant (00_scope.md R7). -/
def nibOf {w : Nat} (x : BitVec w) (k : Nat) : Nib := x.extractLsb' (4 * k) 4

/-- The register a nibble names (30_encoding.md R135). -/
def nibReg (x : Nib) : Fin 16 := x.toFin

/-- The nibble that names a register (30_encoding.md R135). -/
def regNib (r : Fin 16) : Nib := BitVec.ofFin r

/-- The bank register that a nibble `1bbb` names (30_encoding.md R122 format NB, R135). -/
def nibBank (x : Nib) : BReg := (x.extractLsb' 0 3).toFin

/-- The nibble `1bbb` that names a bank register (30_encoding.md R122 format NB). -/
def bankNib (b : BReg) : Nib := (1#1 : BitVec 1) ++ (BitVec.ofFin b : BitVec 3)

/-- Words with top nibble 0 (30_encoding.md R152). -/
def decode0 (b c d : Nib) : Decoded :=
  match d.toNat with
  | 2 =>
    match c.toNat with
    | 0 => .instr (.stcSr (nibReg b))
    | 1 => .instr (.stcGbr (nibReg b))
    | 2 => .instr (.stcVbr (nibReg b))
    | 3 => .instr (.stcSsr (nibReg b))
    | 4 => .instr (.stcSpc (nibReg b))
    | 5 => .unassigned
    | 6 => .unassigned
    | 7 => .outOfScope
    | _ => .instr (.stcBank (nibBank c) (nibReg b))
  | 3 =>
    match c.toNat with
    | 0 => .instr (.bsrf (nibReg b))
    | 2 => .instr (.braf (nibReg b))
    | 8 => .instr (.pref (nibReg b))
    | 12 => .instr (.movcaL (nibReg b))
    | 14 => .instr (.icbi (nibReg b))
    | _ => .unassigned
  | 4 => .instr (.movBStoreR0Idx (nibReg c) (nibReg b))
  | 5 => .instr (.movWStoreR0Idx (nibReg c) (nibReg b))
  | 6 => .instr (.movLStoreR0Idx (nibReg c) (nibReg b))
  | 7 => .instr (.mulL (nibReg c) (nibReg b))
  | 8 =>
    match c.toNat with
    | 0 =>
      match b.toNat with
      | 0 => .instr .clrt
      | _ => .unassigned
    | 1 =>
      match b.toNat with
      | 0 => .instr .sett
      | _ => .unassigned
    | 2 =>
      match b.toNat with
      | 0 => .instr .clrmac
      | _ => .unassigned
    | 3 =>
      match b.toNat with
      | 0 => .instr .ldtlb
      | _ => .unassigned
    | 4 =>
      match b.toNat with
      | 0 => .instr .clrs
      | _ => .unassigned
    | 5 =>
      match b.toNat with
      | 0 => .instr .sets
      | _ => .unassigned
    | 6 =>
      match b.toNat with
      | 0 => .instr .nott
      | _ => .unassigned
    | _ => .unassigned
  | 9 =>
    match c.toNat with
    | 0 =>
      match b.toNat with
      | 15 => .unassigned
      | _ => .instr (.nop b)
    | 1 =>
      match b.toNat with
      | 0 => .instr .div0u
      | _ => .unassigned
    | 2 => .instr (.movt (nibReg b))
    | 3 => .instr (.movrt (nibReg b))
    | 10 => .outOfScope
    | 14 => .outOfScope
    | _ => .unassigned
  | 10 =>
    match c.toNat with
    | 0 => .instr (.stsMach (nibReg b))
    | 1 => .instr (.stsMacl (nibReg b))
    | 2 => .instr (.stsPr (nibReg b))
    | 3 => .instr (.stcSgr (nibReg b))
    | 5 => .instr (.stsFpul (nibReg b))
    | 6 => .instr (.stsFpscr (nibReg b))
    | 15 => .instr (.stcDbr (nibReg b))
    | _ => .unassigned
  | 11 =>
    match c.toNat with
    | 0 =>
      match b.toNat with
      | 0 => .instr .rts
      | _ => .unassigned
    | 1 =>
      match b.toNat with
      | 0 => .instr .sleep
      | _ => .unassigned
    | 2 =>
      match b.toNat with
      | 0 => .instr .rte
      | _ => .unassigned
    | 3 =>
      match b.toNat with
      | 0 => .instr .brk
      | _ => .unassigned
    | 5 =>
      match b.toNat with
      | 0 => .outOfScope
      | _ => .unassigned
    | 6 =>
      match b.toNat with
      | 0 => .instr .rtsN
      | _ => .unassigned
    | 7 => .outOfScope
    | 10 =>
      match b.toNat with
      | 0 => .outOfScope
      | _ => .unassigned
    | _ => .unassigned
  | 12 => .instr (.movBLoadR0Idx (nibReg c) (nibReg b))
  | 13 => .instr (.movWLoadR0Idx (nibReg c) (nibReg b))
  | 14 => .instr (.movLLoadR0Idx (nibReg c) (nibReg b))
  | _ => .outOfScope

/-- Words with top nibble 1 (30_encoding.md R152). -/
def decode1 (b c d : Nib) : Decoded := .instr (.movLStoreDisp4 (nibReg c) (nibReg b) d)

/-- Words with top nibble 2 (30_encoding.md R152). -/
def decode2 (b c d : Nib) : Decoded :=
  match d.toNat with
  | 0 => .instr (.movBStoreInd (nibReg c) (nibReg b))
  | 1 => .instr (.movWStoreInd (nibReg c) (nibReg b))
  | 2 => .instr (.movLStoreInd (nibReg c) (nibReg b))
  | 3 => .instr (.casL (nibReg c) (nibReg b))
  | 4 => .instr (.movBStorePreDec (nibReg c) (nibReg b))
  | 5 => .instr (.movWStorePreDec (nibReg c) (nibReg b))
  | 6 => .instr (.movLStorePreDec (nibReg c) (nibReg b))
  | 7 => .instr (.div0s (nibReg c) (nibReg b))
  | 8 => .instr (.tst (nibReg c) (nibReg b))
  | 9 => .instr (.and (nibReg c) (nibReg b))
  | 10 => .instr (.xor (nibReg c) (nibReg b))
  | 11 => .instr (.or (nibReg c) (nibReg b))
  | 12 => .instr (.cmpStr (nibReg c) (nibReg b))
  | 13 => .instr (.xtrct (nibReg c) (nibReg b))
  | 14 => .instr (.muluW (nibReg c) (nibReg b))
  | 15 => .instr (.mulsW (nibReg c) (nibReg b))
  | _ => .unassigned

/-- Words with top nibble 3 (30_encoding.md R152). -/
def decode3 (b c d : Nib) : Decoded :=
  match d.toNat with
  | 0 => .instr (.cmpEq (nibReg c) (nibReg b))
  | 2 => .instr (.cmpHs (nibReg c) (nibReg b))
  | 3 => .instr (.cmpGe (nibReg c) (nibReg b))
  | 4 => .instr (.div1 (nibReg c) (nibReg b))
  | 5 => .instr (.dmuluL (nibReg c) (nibReg b))
  | 6 => .instr (.cmpHi (nibReg c) (nibReg b))
  | 7 => .instr (.cmpGt (nibReg c) (nibReg b))
  | 8 => .instr (.sub (nibReg c) (nibReg b))
  | 10 => .instr (.subc (nibReg c) (nibReg b))
  | 11 => .instr (.subv (nibReg c) (nibReg b))
  | 12 => .instr (.add (nibReg c) (nibReg b))
  | 13 => .instr (.dmulsL (nibReg c) (nibReg b))
  | 14 => .instr (.addc (nibReg c) (nibReg b))
  | 15 => .instr (.addv (nibReg c) (nibReg b))
  | _ => .outOfScope

/-- Words with top nibble 4 (30_encoding.md R152). -/
def decode4 (b c d : Nib) : Decoded :=
  match d.toNat with
  | 0 =>
    match c.toNat with
    | 0 => .instr (.shll (nibReg b))
    | 1 => .instr (.dt (nibReg b))
    | 2 => .instr (.shal (nibReg b))
    | _ => .unassigned
  | 1 =>
    match c.toNat with
    | 0 => .instr (.shlr (nibReg b))
    | 1 => .instr (.cmpPz (nibReg b))
    | 2 => .instr (.shar (nibReg b))
    | 6 => .instr (.sthf16 (nibReg b))
    | 7 => .instr (.ldhf16 (nibReg b))
    | 11 => .instr (.fmovStorePcR0 (nibReg b))
    | 12 => .instr (.movBStorePcR0 (nibReg b))
    | 13 => .instr (.movWStorePcR0 (nibReg b))
    | 14 => .instr (.movLStorePcR0 (nibReg b))
    | _ => .unassigned
  | 2 =>
    match c.toNat with
    | 0 => .instr (.stslMach (nibReg b))
    | 1 => .instr (.stslMacl (nibReg b))
    | 2 => .instr (.stslPr (nibReg b))
    | 3 => .instr (.stclSgr (nibReg b))
    | 5 => .instr (.stslFpul (nibReg b))
    | 6 => .instr (.stslFpscr (nibReg b))
    | 15 => .instr (.stclDbr (nibReg b))
    | _ => .unassigned
  | 3 =>
    match c.toNat with
    | 0 => .instr (.stclSr (nibReg b))
    | 1 => .instr (.stclGbr (nibReg b))
    | 2 => .instr (.stclVbr (nibReg b))
    | 3 => .instr (.stclSsr (nibReg b))
    | 4 => .instr (.stclSpc (nibReg b))
    | 5 => .unassigned
    | 6 => .unassigned
    | 7 => .outOfScope
    | _ => .instr (.stclBank (nibBank c) (nibReg b))
  | 4 =>
    match c.toNat with
    | 0 => .instr (.rotl (nibReg b))
    | 2 => .instr (.rotcl (nibReg b))
    | 3 => .instr (.shll4 (nibReg b))
    | 10 => .unassigned
    | 11 => .unassigned
    | 12 => .unassigned
    | 13 => .unassigned
    | 14 => .unassigned
    | 15 => .unassigned
    | _ => .outOfScope
  | 5 =>
    match c.toNat with
    | 0 => .instr (.rotr (nibReg b))
    | 1 => .instr (.cmpPl (nibReg b))
    | 2 => .instr (.rotcr (nibReg b))
    | 3 => .instr (.shlr4 (nibReg b))
    | 4 => .outOfScope
    | 5 => .outOfScope
    | 11 => .instr (.fmovLoadPcR0 (nibReg b))
    | 12 => .instr (.movBLoadPcR0 (nibReg b))
    | 13 => .instr (.movWLoadPcR0 (nibReg b))
    | 14 => .instr (.movLLoadPcR0 (nibReg b))
    | 15 => .instr (.leaBPcR0 (nibReg b))
    | _ => .unassigned
  | 6 =>
    match c.toNat with
    | 0 => .instr (.ldslMach (nibReg b))
    | 1 => .instr (.ldslMacl (nibReg b))
    | 2 => .instr (.ldslPr (nibReg b))
    | 3 => .instr (.ldclSgr (nibReg b))
    | 5 => .instr (.ldslFpul (nibReg b))
    | 6 => .instr (.ldslFpscr (nibReg b))
    | 15 => .instr (.ldclDbr (nibReg b))
    | _ => .unassigned
  | 7 =>
    match c.toNat with
    | 0 => .instr (.ldclSr (nibReg b))
    | 1 => .instr (.ldclGbr (nibReg b))
    | 2 => .instr (.ldclVbr (nibReg b))
    | 3 => .instr (.ldclSsr (nibReg b))
    | 4 => .instr (.ldclSpc (nibReg b))
    | 5 => .unassigned
    | 6 => .unassigned
    | 7 => .outOfScope
    | _ => .instr (.ldclBank (nibReg b) (nibBank c))
  | 8 =>
    match c.toNat with
    | 0 => .instr (.shll2 (nibReg b))
    | 1 => .instr (.shll8 (nibReg b))
    | 2 => .instr (.shll16 (nibReg b))
    | 3 => .outOfScope
    | 4 => .outOfScope
    | 5 => .outOfScope
    | 6 => .outOfScope
    | 7 => .outOfScope
    | _ => .unassigned
  | 9 =>
    match c.toNat with
    | 0 => .instr (.shlr2 (nibReg b))
    | 1 => .instr (.shlr8 (nibReg b))
    | 2 => .instr (.shlr16 (nibReg b))
    | 3 => .outOfScope
    | 10 => .outOfScope
    | 14 => .outOfScope
    | _ => .unassigned
  | 10 =>
    match c.toNat with
    | 0 => .instr (.ldsMach (nibReg b))
    | 1 => .instr (.ldsMacl (nibReg b))
    | 2 => .instr (.ldsPr (nibReg b))
    | 3 => .instr (.ldcSgr (nibReg b))
    | 5 => .instr (.ldsFpul (nibReg b))
    | 6 => .instr (.ldsFpscr (nibReg b))
    | 15 => .instr (.ldcDbr (nibReg b))
    | _ => .unassigned
  | 11 =>
    match c.toNat with
    | 0 => .instr (.jsr (nibReg b))
    | 1 => .outOfScope
    | 2 => .instr (.jmp (nibReg b))
    | 4 => .instr (.jsrN (nibReg b))
    | 8 => .instr (.movBStoreR0PostInc (nibReg b))
    | 9 => .instr (.movWStoreR0PostInc (nibReg b))
    | 10 => .instr (.movLStoreR0PostInc (nibReg b))
    | 12 => .instr (.movBLoadR0PreDec (nibReg b))
    | 13 => .instr (.movWLoadR0PreDec (nibReg b))
    | 14 => .instr (.movLLoadR0PreDec (nibReg b))
    | _ => .unassigned
  | 12 => .instr (.shad (nibReg c) (nibReg b))
  | 13 => .instr (.shld (nibReg c) (nibReg b))
  | 14 =>
    match c.toNat with
    | 0 => .instr (.ldcSr (nibReg b))
    | 1 => .instr (.ldcGbr (nibReg b))
    | 2 => .instr (.ldcVbr (nibReg b))
    | 3 => .instr (.ldcSsr (nibReg b))
    | 4 => .instr (.ldcSpc (nibReg b))
    | 5 => .unassigned
    | 6 => .unassigned
    | 7 => .outOfScope
    | _ => .instr (.ldcBank (nibReg b) (nibBank c))
  | 15 => .outOfScope
  | _ => .unassigned

/-- Words with top nibble 5 (30_encoding.md R152). -/
def decode5 (b c d : Nib) : Decoded := .instr (.movLLoadDisp4 (nibReg c) d (nibReg b))

/-- Words with top nibble 6 (30_encoding.md R152). -/
def decode6 (b c d : Nib) : Decoded :=
  match d.toNat with
  | 0 => .instr (.movBLoadInd (nibReg c) (nibReg b))
  | 1 => .instr (.movWLoadInd (nibReg c) (nibReg b))
  | 2 => .instr (.movLLoadInd (nibReg c) (nibReg b))
  | 3 => .instr (.mov (nibReg c) (nibReg b))
  | 4 => .instr (.movBLoadPostInc (nibReg c) (nibReg b))
  | 5 => .instr (.movWLoadPostInc (nibReg c) (nibReg b))
  | 6 => .instr (.movLLoadPostInc (nibReg c) (nibReg b))
  | 7 => .instr (.not (nibReg c) (nibReg b))
  | 8 => .instr (.swapB (nibReg c) (nibReg b))
  | 9 => .instr (.swapW (nibReg c) (nibReg b))
  | 10 => .instr (.negc (nibReg c) (nibReg b))
  | 11 => .instr (.neg (nibReg c) (nibReg b))
  | 12 => .instr (.extuB (nibReg c) (nibReg b))
  | 13 => .instr (.extuW (nibReg c) (nibReg b))
  | 14 => .instr (.extsB (nibReg c) (nibReg b))
  | 15 => .instr (.extsW (nibReg c) (nibReg b))
  | _ => .unassigned

/-- Words with top nibble 7 (30_encoding.md R152). -/
def decode7 (b c d : Nib) : Decoded := .instr (.addImm8 (c ++ d) (nibReg b))

/-- Words with top nibble 8 (30_encoding.md R152). -/
def decode8 (b c d : Nib) : Decoded :=
  match b.toNat with
  | 0 => .instr (.movBStoreR0Disp4 (nibReg c) d)
  | 1 => .instr (.movWStoreR0Disp4 (nibReg c) d)
  | 2 => .instr (.braN8 (c ++ d))
  | 4 => .instr (.movBLoadR0Disp4 (nibReg c) d)
  | 5 => .instr (.movWLoadR0Disp4 (nibReg c) d)
  | 8 => .instr (.cmpEqImm8 (c ++ d))
  | 9 => .instr (.bt8 (c ++ d))
  | 10 => .unassigned
  | 11 => .instr (.bf8 (c ++ d))
  | 13 => .instr (.btS8 (c ++ d))
  | 14 => .unassigned
  | 15 => .instr (.bfS8 (c ++ d))
  | _ => .outOfScope

/-- Words with top nibble 9 (30_encoding.md R152). -/
def decode9 (b c d : Nib) : Decoded := .instr (.movWLoadPcDisp (c ++ d) (nibReg b))

/-- Words with top nibble A (30_encoding.md R152). -/
def decodeA (b c d : Nib) : Decoded := .instr (.bra (b ++ c ++ d))

/-- Words with top nibble B (30_encoding.md R152). -/
def decodeB (b c d : Nib) : Decoded := .instr (.bsr (b ++ c ++ d))

/-- Words with top nibble C (30_encoding.md R152). -/
def decodeC (b c d : Nib) : Decoded :=
  match b.toNat with
  | 0 => .instr (.movBStoreGbr8 (c ++ d))
  | 1 => .instr (.movWStoreGbr8 (c ++ d))
  | 2 => .instr (.movLStoreGbr8 (c ++ d))
  | 3 => .instr (.trapa (c ++ d))
  | 4 => .instr (.movBLoadGbr8 (c ++ d))
  | 5 => .instr (.movWLoadGbr8 (c ++ d))
  | 6 => .instr (.movLLoadGbr8 (c ++ d))
  | 7 => .instr (.mova (c ++ d))
  | 8 => .instr (.tstImm8 (c ++ d))
  | 9 => .instr (.andImm8 (c ++ d))
  | 10 => .instr (.xorImm8 (c ++ d))
  | 11 => .instr (.orImm8 (c ++ d))
  | _ => .outOfScope

/-- Words with top nibble D (30_encoding.md R152). -/
def decodeD (b c d : Nib) : Decoded := .instr (.movLLoadPcDisp (c ++ d) (nibReg b))

/-- Words with top nibble E (30_encoding.md R152). -/
def decodeE (b c d : Nib) : Decoded := .instr (.movImm8 (c ++ d) (nibReg b))

/-- Words with top nibble F (30_encoding.md R152, R153). -/
def decodeF (b c d : Nib) : Decoded :=
  match d.toNat with
  | 0 => .instr (.fadd (nibReg c) (nibReg b))
  | 1 => .instr (.fsub (nibReg c) (nibReg b))
  | 2 => .instr (.fmul (nibReg c) (nibReg b))
  | 3 => .instr (.fdiv (nibReg c) (nibReg b))
  | 4 => .instr (.fcmpEq (nibReg c) (nibReg b))
  | 5 => .instr (.fcmpGt (nibReg c) (nibReg b))
  | 6 => .instr (.fmovLoadR0Idx (nibReg c) (nibReg b))
  | 7 => .instr (.fmovStoreR0Idx (nibReg c) (nibReg b))
  | 8 => .instr (.fmovLoadInd (nibReg c) (nibReg b))
  | 9 => .instr (.fmovLoadPostInc (nibReg c) (nibReg b))
  | 10 => .instr (.fmovStoreInd (nibReg c) (nibReg b))
  | 11 => .instr (.fmovStorePreDec (nibReg c) (nibReg b))
  | 12 => .instr (.fmov (nibReg c) (nibReg b))
  | 13 =>
    match c.toNat with
    | 0 => .instr (.fsts (nibReg b))
    | 1 => .instr (.flds (nibReg b))
    | 2 => .instr (.float (nibReg b))
    | 3 => .instr (.ftrc (nibReg b))
    | 4 => .instr (.fneg (nibReg b))
    | 5 => .instr (.fabs (nibReg b))
    | 6 => .instr (.fsqrt (nibReg b))
    | 8 => .instr (.fldi0 (nibReg b))
    | 9 => .instr (.fldi1 (nibReg b))
    | 10 => .instr (.fcnvsd (nibReg b))
    | 11 => .instr (.fcnvds (nibReg b))
    | 13 => .instr (.psetmd b)
    | 15 =>
      match b.toNat with
      | 3 => .instr .fschg
      | 7 => .instr .fpchg
      | 11 => .instr .frchg
      | 15 => .unassigned
      | _ => .outOfScope
    | _ => .outOfScope
  | 14 => .instr (.fmac (nibReg c) (nibReg b))
  | 15 => .outOfScope
  | _ => .unassigned

/-- A 16-bit word by its four nibbles (30_encoding.md R152, R153). -/
def decode16 (a b c d : Nib) : Decoded :=
  match a.toNat with
  | 0 => decode0 b c d
  | 1 => decode1 b c d
  | 2 => decode2 b c d
  | 3 => decode3 b c d
  | 4 => decode4 b c d
  | 5 => decode5 b c d
  | 6 => decode6 b c d
  | 7 => decode7 b c d
  | 8 => decode8 b c d
  | 9 => decode9 b c d
  | 10 => decodeA b c d
  | 11 => decodeB b c d
  | 12 => decodeC b c d
  | 13 => decodeD b c d
  | 14 => decodeE b c d
  | _ => decodeF b c d

/-- Second words with top nibble 0 after the prefix 8Epq (30_encoding.md R154). -/
def decodeX0 (p q b c d : Nib) : Decoded :=
  match d.toNat with
  | 4 => .instr (.movBStoreIdx4 (nibReg c) (nibReg b) (nibReg p) q)
  | 5 => .instr (.movWStoreIdx4 (nibReg c) (nibReg b) (nibReg p) q)
  | 6 => .instr (.movLStoreIdx4 (nibReg c) (nibReg b) (nibReg p) q)
  | 12 => .instr (.movBLoadIdx4 (nibReg c) (nibReg p) q (nibReg b))
  | 13 => .instr (.movWLoadIdx4 (nibReg c) (nibReg p) q (nibReg b))
  | 14 => .instr (.movLLoadIdx4 (nibReg c) (nibReg p) q (nibReg b))
  | _ => .outOfScope

/-- Second words with top nibble 1 after the prefix 8Epq (30_encoding.md R154). -/
def decodeX1 (p q b c d : Nib) : Decoded := .instr (.movLStoreIdx8 (nibReg c) (nibReg b) (nibReg d) (p ++ q))

/-- Second words with top nibble 2 after the prefix 8Epq (30_encoding.md R154). -/
def decodeX2 (p q b c d : Nib) : Decoded :=
  match d.toNat with
  | 0 => .instr (.movBStoreDisp8 (nibReg c) (nibReg b) (p ++ q))
  | 1 => .instr (.movWStoreDisp8 (nibReg c) (nibReg b) (p ++ q))
  | 2 => .instr (.movLStoreDisp8 (nibReg c) (nibReg b) (p ++ q))
  | 3 => .outOfScope
  | 4 => .instr (.fmovStoreDisp8 (nibReg c) (nibReg b) (p ++ q))
  | 6 => .instr (.fmovLoadDisp8 (nibReg c) (p ++ q) (nibReg b))
  | 9 => .instr (.and3Imm8 (nibReg c) (p ++ q) (nibReg b))
  | 10 => .instr (.xor3Imm8 (nibReg c) (p ++ q) (nibReg b))
  | 11 => .instr (.or3Imm8 (nibReg c) (p ++ q) (nibReg b))
  | 14 => .instr (.mul3Imm8 (nibReg c) (p ++ q) (nibReg b))
  | 15 => .instr (.mul3NegImm8 (nibReg c) (p ++ q) (nibReg b))
  | _ => .unassigned

/-- Second words with top nibble 3 after the prefix 8Epq (30_encoding.md R154). -/
def decodeX3 (p q b c d : Nib) : Decoded :=
  match d.toNat with
  | 0 => .instr (.cmpEqImm12 (p ++ q ++ c) (nibReg b))
  | 2 => .instr (.cmpHsImm12 (p ++ q ++ c) (nibReg b))
  | 3 => .instr (.cmpGeImm12 (p ++ q ++ c) (nibReg b))
  | 6 => .instr (.cmpHiImm12 (p ++ q ++ c) (nibReg b))
  | 7 => .instr (.cmpGtImm12 (p ++ q ++ c) (nibReg b))
  | 8 => .instr (.sub3Imm8 (nibReg c) (p ++ q) (nibReg b))
  | 9 => .instr (.and3NegImm8 (nibReg c) (p ++ q) (nibReg b))
  | 12 => .instr (.add3Imm8 (nibReg c) (p ++ q) (nibReg b))
  | _ => .unassigned

/-- Second words with top nibble 4 after the prefix 8Epq (30_encoding.md R154). -/
def decodeX4 (p q b c d : Nib) : Decoded :=
  match d.toNat with
  | 3 =>
    match c.toNat with
    | 0 => .instr (.add3 (nibReg p) (nibReg q) (nibReg b))
    | 1 => .instr (.sub3 (nibReg p) (nibReg q) (nibReg b))
    | 2 => .instr (.mul3 (nibReg p) (nibReg q) (nibReg b))
    | 3 => .instr (.and3 (nibReg p) (nibReg q) (nibReg b))
    | 4 => .instr (.or3 (nibReg p) (nibReg q) (nibReg b))
    | 5 => .instr (.xor3 (nibReg p) (nibReg q) (nibReg b))
    | 6 => .instr (.shld3 (nibReg p) (nibReg q) (nibReg b))
    | 7 => .instr (.shlr3 (nibReg p) (nibReg q) (nibReg b))
    | 8 => .instr (.shad3 (nibReg p) (nibReg q) (nibReg b))
    | 9 => .instr (.shar3 (nibReg p) (nibReg q) (nibReg b))
    | 10 => .instr (.cselt (nibReg p) (nibReg q) (nibReg b))
    | 11 => .unassigned
    | 12 => .instr (.fadd3 (nibReg p) (nibReg q) (nibReg b))
    | 13 => .instr (.fsub3 (nibReg p) (nibReg q) (nibReg b))
    | 14 => .instr (.fmul3 (nibReg p) (nibReg q) (nibReg b))
    | 15 => .instr (.fdiv3 (nibReg p) (nibReg q) (nibReg b))
    | _ => .unassigned
  | 4 => .outOfScope
  | 5 => .outOfScope
  | 6 => .outOfScope
  | 7 => .outOfScope
  | 12 => .instr (.shad3Imm8 (nibReg c) (p ++ q) (nibReg b))
  | 13 => .instr (.shld3Imm8 (nibReg c) (p ++ q) (nibReg b))
  | 14 =>
    match c.toNat with
    | 0 => .instr (.movuBLoadIdx (nibReg p) (nibReg q) (nibReg b))
    | 1 => .instr (.movuWLoadIdx (nibReg p) (nibReg q) (nibReg b))
    | 2 => .instr (.fmovLoadIdx (nibReg p) (nibReg q) (nibReg b))
    | 3 => .instr (.fmovStoreIdx (nibReg p) (nibReg b) (nibReg q))
    | 4 => .deprecated "MOV.B Rm, @(Rn, Ro)"
    | 5 => .deprecated "MOV.W Rm, @(Rn, Ro)"
    | 6 => .deprecated "MOV.L Rm, @(Rn, Ro)"
    | 8 => .deprecated "LEA.B @(Rm, Ro), Rn"
    | 9 => .deprecated "LEA.W @(Rm, Ro), Rn"
    | 10 => .deprecated "LEA.L @(Rm, Ro), Rn"
    | 11 => .deprecated "LEA.Q @(Rm, Ro), Rn"
    | 12 => .deprecated "MOV.B @(Rm, Ro), Rn"
    | 13 => .deprecated "MOV.W @(Rm, Ro), Rn"
    | 14 => .deprecated "MOV.L @(Rm, Ro), Rn"
    | _ => .outOfScope
  | _ => .unassigned

/-- Second words with top nibble 5 after the prefix 8Epq (30_encoding.md R154). -/
def decodeX5 (p q b c d : Nib) : Decoded := .instr (.movLLoadIdx8 (nibReg c) (nibReg d) (p ++ q) (nibReg b))

/-- Second words with top nibble 6 after the prefix 8Epq (30_encoding.md R154). -/
def decodeX6 (p q b c d : Nib) : Decoded :=
  match d.toNat with
  | 0 => .instr (.movBLoadDisp8 (nibReg c) (p ++ q) (nibReg b))
  | 1 => .instr (.movWLoadDisp8 (nibReg c) (p ++ q) (nibReg b))
  | 2 => .instr (.movLLoadDisp8 (nibReg c) (p ++ q) (nibReg b))
  | 4 => .instr (.leaBIdx4 (nibReg c) (nibReg p) q (nibReg b))
  | 5 => .instr (.leaWIdx4 (nibReg c) (nibReg p) q (nibReg b))
  | 6 => .instr (.leaLIdx4 (nibReg c) (nibReg p) q (nibReg b))
  | 7 => .instr (.leaQIdx4 (nibReg c) (nibReg p) q (nibReg b))
  | 8 => .instr (.leaBDisp8 (nibReg c) (p ++ q) (nibReg b))
  | 9 => .instr (.leaWDisp8 (nibReg c) (p ++ q) (nibReg b))
  | 10 => .instr (.leaLDisp8 (nibReg c) (p ++ q) (nibReg b))
  | 11 => .instr (.leaQDisp8 (nibReg c) (p ++ q) (nibReg b))
  | 12 => .instr (.movuBLoadDisp8 (nibReg c) (p ++ q) (nibReg b))
  | 13 => .instr (.movuWLoadDisp8 (nibReg c) (p ++ q) (nibReg b))
  | 15 => .unassigned
  | _ => .outOfScope

/-- Second words with top nibble 7 after the prefix 8Epq (30_encoding.md R154). -/
def decodeX7 (p q b c d : Nib) : Decoded := .instr (.addImm16 (p ++ q ++ c ++ d) (nibReg b))

/-- Second words with top nibble 8 after the prefix 8Epq (30_encoding.md R154). -/
def decodeX8 (p q b c d : Nib) : Decoded :=
  match b.toNat with
  | 2 => .instr (.braN16 (p ++ q ++ c ++ d))
  | 3 => .instr (.bsrN16 (p ++ q ++ c ++ d))
  | 8 => .instr (.cmpEqImm16 (p ++ q ++ c ++ d))
  | 9 => .instr (.bt16 (p ++ q ++ c ++ d))
  | 10 => .instr (.ldhf16Imm (p ++ q ++ c ++ d))
  | 11 => .instr (.bf16 (p ++ q ++ c ++ d))
  | 12 => .instr (.ldif16 (p ++ q ++ c ++ d))
  | 13 => .instr (.btS16 (p ++ q ++ c ++ d))
  | 15 => .instr (.bfS16 (p ++ q ++ c ++ d))
  | _ => .unassigned

/-- Second words with top nibble 9 after the prefix 8Epq (30_encoding.md R154). -/
def decodeX9 (p q b c d : Nib) : Decoded := .instr (.ldsh16 (p ++ q ++ c ++ d) (nibReg b))

/-- Second words with top nibble A after the prefix 8Epq (30_encoding.md R154). -/
def decodeXA (_p _q _b _c _d : Nib) : Decoded := .outOfScope

/-- Second words with top nibble B after the prefix 8Epq (30_encoding.md R154). -/
def decodeXB (_p _q _b _c _d : Nib) : Decoded := .outOfScope

/-- Second words with top nibble C after the prefix 8Epq (30_encoding.md R154). -/
def decodeXC (p q b c d : Nib) : Decoded :=
  match b.toNat with
  | 0 => .instr (.movBStoreGbr12 (nibReg c) (p ++ q ++ d))
  | 1 => .instr (.movWStoreGbr12 (nibReg c) (p ++ q ++ d))
  | 2 => .instr (.movLStoreGbr12 (nibReg c) (p ++ q ++ d))
  | 4 => .instr (.movBLoadGbr12 (p ++ q ++ d) (nibReg c))
  | 5 => .instr (.movWLoadGbr12 (p ++ q ++ d) (nibReg c))
  | 6 => .instr (.movLLoadGbr12 (p ++ q ++ d) (nibReg c))
  | 8 => .instr (.tstImm12 (p ++ q ++ d) (nibReg c))
  | 9 => .instr (.andImm12 (p ++ q ++ d) (nibReg c))
  | 10 => .instr (.xorImm12 (p ++ q ++ d) (nibReg c))
  | 11 => .instr (.orImm12 (p ++ q ++ d) (nibReg c))
  | _ => .unassigned

/-- Second words with top nibble D after the prefix 8Epq (30_encoding.md R154). -/
def decodeXD (_p _q _b _c _d : Nib) : Decoded := .outOfScope

/-- Second words with top nibble E after the prefix 8Epq (30_encoding.md R154). -/
def decodeXE (p q b c d : Nib) : Decoded := .instr (.movImm16 (p ++ q ++ c ++ d) (nibReg b))

/-- Second words with top nibble F after the prefix 8Epq (30_encoding.md R154). -/
def decodeXF (_p _q _b _c _d : Nib) : Decoded := .outOfScope

/-- The second word of an 8Epq form by its nibbles (30_encoding.md R154). -/
def decode32 (p q a b c d : Nib) : Decoded :=
  match a.toNat with
  | 0 => decodeX0 p q b c d
  | 1 => decodeX1 p q b c d
  | 2 => decodeX2 p q b c d
  | 3 => decodeX3 p q b c d
  | 4 => decodeX4 p q b c d
  | 5 => decodeX5 p q b c d
  | 6 => decodeX6 p q b c d
  | 7 => decodeX7 p q b c d
  | 8 => decodeX8 p q b c d
  | 9 => decodeX9 p q b c d
  | 10 => decodeXA p q b c d
  | 11 => decodeXB p q b c d
  | 12 => decodeXC p q b c d
  | 13 => decodeXD p q b c d
  | 14 => decodeXE p q b c d
  | _ => decodeXF p q b c d

/-! ### The encoder -/

/-- The words of an instruction, written from the patterns of the opcode table (30_encoding.md R122, R123):
the first word, and the second for a 32-bit form. -/
def encode : Instr → Half × Option Half
  | .stcSr rn => (word16 0x0 (regNib rn) 0x0 0x2, none)
  | .stcGbr rn => (word16 0x0 (regNib rn) 0x1 0x2, none)
  | .stcVbr rn => (word16 0x0 (regNib rn) 0x2 0x2, none)
  | .stcSsr rn => (word16 0x0 (regNib rn) 0x3 0x2, none)
  | .stcSpc rn => (word16 0x0 (regNib rn) 0x4 0x2, none)
  | .stcBank b rn => (word16 0x0 (regNib rn) (bankNib b) 0x2, none)
  | .bsrf rm => (word16 0x0 (regNib rm) 0x0 0x3, none)
  | .braf rm => (word16 0x0 (regNib rm) 0x2 0x3, none)
  | .pref rn => (word16 0x0 (regNib rn) 0x8 0x3, none)
  | .movcaL rn => (word16 0x0 (regNib rn) 0xC 0x3, none)
  | .icbi rn => (word16 0x0 (regNib rn) 0xE 0x3, none)
  | .movBStoreR0Idx rm rn => (word16 0x0 (regNib rn) (regNib rm) 0x4, none)
  | .movWStoreR0Idx rm rn => (word16 0x0 (regNib rn) (regNib rm) 0x5, none)
  | .movLStoreR0Idx rm rn => (word16 0x0 (regNib rn) (regNib rm) 0x6, none)
  | .mulL rm rn => (word16 0x0 (regNib rn) (regNib rm) 0x7, none)
  | .clrt => (word16 0x0 0x0 0x0 0x8, none)
  | .sett => (word16 0x0 0x0 0x1 0x8, none)
  | .clrmac => (word16 0x0 0x0 0x2 0x8, none)
  | .ldtlb => (word16 0x0 0x0 0x3 0x8, none)
  | .clrs => (word16 0x0 0x0 0x4 0x8, none)
  | .sets => (word16 0x0 0x0 0x5 0x8, none)
  | .nott => (word16 0x0 0x0 0x6 0x8, none)
  | .nop imm => (word16 0x0 imm 0x0 0x9, none)
  | .div0u => (word16 0x0 0x0 0x1 0x9, none)
  | .movt rn => (word16 0x0 (regNib rn) 0x2 0x9, none)
  | .movrt rn => (word16 0x0 (regNib rn) 0x3 0x9, none)
  | .stsMach rn => (word16 0x0 (regNib rn) 0x0 0xA, none)
  | .stsMacl rn => (word16 0x0 (regNib rn) 0x1 0xA, none)
  | .stsPr rn => (word16 0x0 (regNib rn) 0x2 0xA, none)
  | .stcSgr rn => (word16 0x0 (regNib rn) 0x3 0xA, none)
  | .stsFpul rn => (word16 0x0 (regNib rn) 0x5 0xA, none)
  | .stsFpscr rn => (word16 0x0 (regNib rn) 0x6 0xA, none)
  | .stcDbr rn => (word16 0x0 (regNib rn) 0xF 0xA, none)
  | .rts => (word16 0x0 0x0 0x0 0xB, none)
  | .sleep => (word16 0x0 0x0 0x1 0xB, none)
  | .rte => (word16 0x0 0x0 0x2 0xB, none)
  | .brk => (word16 0x0 0x0 0x3 0xB, none)
  | .rtsN => (word16 0x0 0x0 0x6 0xB, none)
  | .movBLoadR0Idx rm rn => (word16 0x0 (regNib rn) (regNib rm) 0xC, none)
  | .movWLoadR0Idx rm rn => (word16 0x0 (regNib rn) (regNib rm) 0xD, none)
  | .movLLoadR0Idx rm rn => (word16 0x0 (regNib rn) (regNib rm) 0xE, none)
  | .movLStoreDisp4 rm rn disp => (word16 0x1 (regNib rn) (regNib rm) disp, none)
  | .movBStoreInd rm rn => (word16 0x2 (regNib rn) (regNib rm) 0x0, none)
  | .movWStoreInd rm rn => (word16 0x2 (regNib rn) (regNib rm) 0x1, none)
  | .movLStoreInd rm rn => (word16 0x2 (regNib rn) (regNib rm) 0x2, none)
  | .casL rm rn => (word16 0x2 (regNib rn) (regNib rm) 0x3, none)
  | .movBStorePreDec rm rn => (word16 0x2 (regNib rn) (regNib rm) 0x4, none)
  | .movWStorePreDec rm rn => (word16 0x2 (regNib rn) (regNib rm) 0x5, none)
  | .movLStorePreDec rm rn => (word16 0x2 (regNib rn) (regNib rm) 0x6, none)
  | .div0s rm rn => (word16 0x2 (regNib rn) (regNib rm) 0x7, none)
  | .tst rm rn => (word16 0x2 (regNib rn) (regNib rm) 0x8, none)
  | .and rm rn => (word16 0x2 (regNib rn) (regNib rm) 0x9, none)
  | .xor rm rn => (word16 0x2 (regNib rn) (regNib rm) 0xA, none)
  | .or rm rn => (word16 0x2 (regNib rn) (regNib rm) 0xB, none)
  | .cmpStr rm rn => (word16 0x2 (regNib rn) (regNib rm) 0xC, none)
  | .xtrct rm rn => (word16 0x2 (regNib rn) (regNib rm) 0xD, none)
  | .muluW rm rn => (word16 0x2 (regNib rn) (regNib rm) 0xE, none)
  | .mulsW rm rn => (word16 0x2 (regNib rn) (regNib rm) 0xF, none)
  | .cmpEq rm rn => (word16 0x3 (regNib rn) (regNib rm) 0x0, none)
  | .cmpHs rm rn => (word16 0x3 (regNib rn) (regNib rm) 0x2, none)
  | .cmpGe rm rn => (word16 0x3 (regNib rn) (regNib rm) 0x3, none)
  | .div1 rm rn => (word16 0x3 (regNib rn) (regNib rm) 0x4, none)
  | .dmuluL rm rn => (word16 0x3 (regNib rn) (regNib rm) 0x5, none)
  | .cmpHi rm rn => (word16 0x3 (regNib rn) (regNib rm) 0x6, none)
  | .cmpGt rm rn => (word16 0x3 (regNib rn) (regNib rm) 0x7, none)
  | .sub rm rn => (word16 0x3 (regNib rn) (regNib rm) 0x8, none)
  | .subc rm rn => (word16 0x3 (regNib rn) (regNib rm) 0xA, none)
  | .subv rm rn => (word16 0x3 (regNib rn) (regNib rm) 0xB, none)
  | .add rm rn => (word16 0x3 (regNib rn) (regNib rm) 0xC, none)
  | .dmulsL rm rn => (word16 0x3 (regNib rn) (regNib rm) 0xD, none)
  | .addc rm rn => (word16 0x3 (regNib rn) (regNib rm) 0xE, none)
  | .addv rm rn => (word16 0x3 (regNib rn) (regNib rm) 0xF, none)
  | .shll rn => (word16 0x4 (regNib rn) 0x0 0x0, none)
  | .dt rn => (word16 0x4 (regNib rn) 0x1 0x0, none)
  | .shal rn => (word16 0x4 (regNib rn) 0x2 0x0, none)
  | .shlr rn => (word16 0x4 (regNib rn) 0x0 0x1, none)
  | .cmpPz rn => (word16 0x4 (regNib rn) 0x1 0x1, none)
  | .shar rn => (word16 0x4 (regNib rn) 0x2 0x1, none)
  | .sthf16 rn => (word16 0x4 (regNib rn) 0x6 0x1, none)
  | .ldhf16 rm => (word16 0x4 (regNib rm) 0x7 0x1, none)
  | .fmovStorePcR0 rm => (word16 0x4 (regNib rm) 0xB 0x1, none)
  | .movBStorePcR0 rm => (word16 0x4 (regNib rm) 0xC 0x1, none)
  | .movWStorePcR0 rm => (word16 0x4 (regNib rm) 0xD 0x1, none)
  | .movLStorePcR0 rm => (word16 0x4 (regNib rm) 0xE 0x1, none)
  | .stslMach rn => (word16 0x4 (regNib rn) 0x0 0x2, none)
  | .stslMacl rn => (word16 0x4 (regNib rn) 0x1 0x2, none)
  | .stslPr rn => (word16 0x4 (regNib rn) 0x2 0x2, none)
  | .stclSgr rn => (word16 0x4 (regNib rn) 0x3 0x2, none)
  | .stslFpul rn => (word16 0x4 (regNib rn) 0x5 0x2, none)
  | .stslFpscr rn => (word16 0x4 (regNib rn) 0x6 0x2, none)
  | .stclDbr rn => (word16 0x4 (regNib rn) 0xF 0x2, none)
  | .stclSr rn => (word16 0x4 (regNib rn) 0x0 0x3, none)
  | .stclGbr rn => (word16 0x4 (regNib rn) 0x1 0x3, none)
  | .stclVbr rn => (word16 0x4 (regNib rn) 0x2 0x3, none)
  | .stclSsr rn => (word16 0x4 (regNib rn) 0x3 0x3, none)
  | .stclSpc rn => (word16 0x4 (regNib rn) 0x4 0x3, none)
  | .stclBank b rn => (word16 0x4 (regNib rn) (bankNib b) 0x3, none)
  | .rotl rn => (word16 0x4 (regNib rn) 0x0 0x4, none)
  | .rotcl rn => (word16 0x4 (regNib rn) 0x2 0x4, none)
  | .shll4 rn => (word16 0x4 (regNib rn) 0x3 0x4, none)
  | .rotr rn => (word16 0x4 (regNib rn) 0x0 0x5, none)
  | .cmpPl rn => (word16 0x4 (regNib rn) 0x1 0x5, none)
  | .rotcr rn => (word16 0x4 (regNib rn) 0x2 0x5, none)
  | .shlr4 rn => (word16 0x4 (regNib rn) 0x3 0x5, none)
  | .fmovLoadPcR0 rn => (word16 0x4 (regNib rn) 0xB 0x5, none)
  | .movBLoadPcR0 rn => (word16 0x4 (regNib rn) 0xC 0x5, none)
  | .movWLoadPcR0 rn => (word16 0x4 (regNib rn) 0xD 0x5, none)
  | .movLLoadPcR0 rn => (word16 0x4 (regNib rn) 0xE 0x5, none)
  | .leaBPcR0 rn => (word16 0x4 (regNib rn) 0xF 0x5, none)
  | .ldslMach rm => (word16 0x4 (regNib rm) 0x0 0x6, none)
  | .ldslMacl rm => (word16 0x4 (regNib rm) 0x1 0x6, none)
  | .ldslPr rm => (word16 0x4 (regNib rm) 0x2 0x6, none)
  | .ldclSgr rm => (word16 0x4 (regNib rm) 0x3 0x6, none)
  | .ldslFpul rm => (word16 0x4 (regNib rm) 0x5 0x6, none)
  | .ldslFpscr rm => (word16 0x4 (regNib rm) 0x6 0x6, none)
  | .ldclDbr rm => (word16 0x4 (regNib rm) 0xF 0x6, none)
  | .ldclSr rm => (word16 0x4 (regNib rm) 0x0 0x7, none)
  | .ldclGbr rm => (word16 0x4 (regNib rm) 0x1 0x7, none)
  | .ldclVbr rm => (word16 0x4 (regNib rm) 0x2 0x7, none)
  | .ldclSsr rm => (word16 0x4 (regNib rm) 0x3 0x7, none)
  | .ldclSpc rm => (word16 0x4 (regNib rm) 0x4 0x7, none)
  | .ldclBank rm b => (word16 0x4 (regNib rm) (bankNib b) 0x7, none)
  | .shll2 rn => (word16 0x4 (regNib rn) 0x0 0x8, none)
  | .shll8 rn => (word16 0x4 (regNib rn) 0x1 0x8, none)
  | .shll16 rn => (word16 0x4 (regNib rn) 0x2 0x8, none)
  | .shlr2 rn => (word16 0x4 (regNib rn) 0x0 0x9, none)
  | .shlr8 rn => (word16 0x4 (regNib rn) 0x1 0x9, none)
  | .shlr16 rn => (word16 0x4 (regNib rn) 0x2 0x9, none)
  | .ldsMach rm => (word16 0x4 (regNib rm) 0x0 0xA, none)
  | .ldsMacl rm => (word16 0x4 (regNib rm) 0x1 0xA, none)
  | .ldsPr rm => (word16 0x4 (regNib rm) 0x2 0xA, none)
  | .ldcSgr rm => (word16 0x4 (regNib rm) 0x3 0xA, none)
  | .ldsFpul rm => (word16 0x4 (regNib rm) 0x5 0xA, none)
  | .ldsFpscr rm => (word16 0x4 (regNib rm) 0x6 0xA, none)
  | .ldcDbr rm => (word16 0x4 (regNib rm) 0xF 0xA, none)
  | .jsr rm => (word16 0x4 (regNib rm) 0x0 0xB, none)
  | .jmp rm => (word16 0x4 (regNib rm) 0x2 0xB, none)
  | .jsrN rm => (word16 0x4 (regNib rm) 0x4 0xB, none)
  | .movBStoreR0PostInc rn => (word16 0x4 (regNib rn) 0x8 0xB, none)
  | .movWStoreR0PostInc rn => (word16 0x4 (regNib rn) 0x9 0xB, none)
  | .movLStoreR0PostInc rn => (word16 0x4 (regNib rn) 0xA 0xB, none)
  | .movBLoadR0PreDec rm => (word16 0x4 (regNib rm) 0xC 0xB, none)
  | .movWLoadR0PreDec rm => (word16 0x4 (regNib rm) 0xD 0xB, none)
  | .movLLoadR0PreDec rm => (word16 0x4 (regNib rm) 0xE 0xB, none)
  | .shad rm rn => (word16 0x4 (regNib rn) (regNib rm) 0xC, none)
  | .shld rm rn => (word16 0x4 (regNib rn) (regNib rm) 0xD, none)
  | .ldcSr rm => (word16 0x4 (regNib rm) 0x0 0xE, none)
  | .ldcGbr rm => (word16 0x4 (regNib rm) 0x1 0xE, none)
  | .ldcVbr rm => (word16 0x4 (regNib rm) 0x2 0xE, none)
  | .ldcSsr rm => (word16 0x4 (regNib rm) 0x3 0xE, none)
  | .ldcSpc rm => (word16 0x4 (regNib rm) 0x4 0xE, none)
  | .ldcBank rm b => (word16 0x4 (regNib rm) (bankNib b) 0xE, none)
  | .movLLoadDisp4 rm disp rn => (word16 0x5 (regNib rn) (regNib rm) disp, none)
  | .movBLoadInd rm rn => (word16 0x6 (regNib rn) (regNib rm) 0x0, none)
  | .movWLoadInd rm rn => (word16 0x6 (regNib rn) (regNib rm) 0x1, none)
  | .movLLoadInd rm rn => (word16 0x6 (regNib rn) (regNib rm) 0x2, none)
  | .mov rm rn => (word16 0x6 (regNib rn) (regNib rm) 0x3, none)
  | .movBLoadPostInc rm rn => (word16 0x6 (regNib rn) (regNib rm) 0x4, none)
  | .movWLoadPostInc rm rn => (word16 0x6 (regNib rn) (regNib rm) 0x5, none)
  | .movLLoadPostInc rm rn => (word16 0x6 (regNib rn) (regNib rm) 0x6, none)
  | .not rm rn => (word16 0x6 (regNib rn) (regNib rm) 0x7, none)
  | .swapB rm rn => (word16 0x6 (regNib rn) (regNib rm) 0x8, none)
  | .swapW rm rn => (word16 0x6 (regNib rn) (regNib rm) 0x9, none)
  | .negc rm rn => (word16 0x6 (regNib rn) (regNib rm) 0xA, none)
  | .neg rm rn => (word16 0x6 (regNib rn) (regNib rm) 0xB, none)
  | .extuB rm rn => (word16 0x6 (regNib rn) (regNib rm) 0xC, none)
  | .extuW rm rn => (word16 0x6 (regNib rn) (regNib rm) 0xD, none)
  | .extsB rm rn => (word16 0x6 (regNib rn) (regNib rm) 0xE, none)
  | .extsW rm rn => (word16 0x6 (regNib rn) (regNib rm) 0xF, none)
  | .addImm8 imm rn => (word16 0x7 (regNib rn) (nibOf imm 1) (nibOf imm 0), none)
  | .movBStoreR0Disp4 rn disp => (word16 0x8 0x0 (regNib rn) disp, none)
  | .movWStoreR0Disp4 rn disp => (word16 0x8 0x1 (regNib rn) disp, none)
  | .braN8 label => (word16 0x8 0x2 (nibOf label 1) (nibOf label 0), none)
  | .movBLoadR0Disp4 rm disp => (word16 0x8 0x4 (regNib rm) disp, none)
  | .movWLoadR0Disp4 rm disp => (word16 0x8 0x5 (regNib rm) disp, none)
  | .cmpEqImm8 imm => (word16 0x8 0x8 (nibOf imm 1) (nibOf imm 0), none)
  | .bt8 label => (word16 0x8 0x9 (nibOf label 1) (nibOf label 0), none)
  | .movi24 imm => (word16 0x8 0xA (nibOf imm 5) (nibOf imm 4), some (word16 (nibOf imm 3) (nibOf imm 2) (nibOf imm 1) (nibOf imm 0)))
  | .bf8 label => (word16 0x8 0xB (nibOf label 1) (nibOf label 0), none)
  | .btS8 label => (word16 0x8 0xD (nibOf label 1) (nibOf label 0), none)
  | .bfS8 label => (word16 0x8 0xF (nibOf label 1) (nibOf label 0), none)
  | .movWLoadPcDisp disp rn => (word16 0x9 (regNib rn) (nibOf disp 1) (nibOf disp 0), none)
  | .bra label => (word16 0xA (nibOf label 2) (nibOf label 1) (nibOf label 0), none)
  | .bsr label => (word16 0xB (nibOf label 2) (nibOf label 1) (nibOf label 0), none)
  | .movBStoreGbr8 disp => (word16 0xC 0x0 (nibOf disp 1) (nibOf disp 0), none)
  | .movWStoreGbr8 disp => (word16 0xC 0x1 (nibOf disp 1) (nibOf disp 0), none)
  | .movLStoreGbr8 disp => (word16 0xC 0x2 (nibOf disp 1) (nibOf disp 0), none)
  | .trapa imm => (word16 0xC 0x3 (nibOf imm 1) (nibOf imm 0), none)
  | .movBLoadGbr8 disp => (word16 0xC 0x4 (nibOf disp 1) (nibOf disp 0), none)
  | .movWLoadGbr8 disp => (word16 0xC 0x5 (nibOf disp 1) (nibOf disp 0), none)
  | .movLLoadGbr8 disp => (word16 0xC 0x6 (nibOf disp 1) (nibOf disp 0), none)
  | .mova disp => (word16 0xC 0x7 (nibOf disp 1) (nibOf disp 0), none)
  | .tstImm8 imm => (word16 0xC 0x8 (nibOf imm 1) (nibOf imm 0), none)
  | .andImm8 imm => (word16 0xC 0x9 (nibOf imm 1) (nibOf imm 0), none)
  | .xorImm8 imm => (word16 0xC 0xA (nibOf imm 1) (nibOf imm 0), none)
  | .orImm8 imm => (word16 0xC 0xB (nibOf imm 1) (nibOf imm 0), none)
  | .movLLoadPcDisp disp rn => (word16 0xD (regNib rn) (nibOf disp 1) (nibOf disp 0), none)
  | .movImm8 imm rn => (word16 0xE (regNib rn) (nibOf imm 1) (nibOf imm 0), none)
  | .fadd rm rn => (word16 0xF (regNib rn) (regNib rm) 0x0, none)
  | .fsub rm rn => (word16 0xF (regNib rn) (regNib rm) 0x1, none)
  | .fmul rm rn => (word16 0xF (regNib rn) (regNib rm) 0x2, none)
  | .fdiv rm rn => (word16 0xF (regNib rn) (regNib rm) 0x3, none)
  | .fcmpEq rm rn => (word16 0xF (regNib rn) (regNib rm) 0x4, none)
  | .fcmpGt rm rn => (word16 0xF (regNib rn) (regNib rm) 0x5, none)
  | .fmovLoadR0Idx rm rn => (word16 0xF (regNib rn) (regNib rm) 0x6, none)
  | .fmovStoreR0Idx rm rn => (word16 0xF (regNib rn) (regNib rm) 0x7, none)
  | .fmovLoadInd rm rn => (word16 0xF (regNib rn) (regNib rm) 0x8, none)
  | .fmovLoadPostInc rm rn => (word16 0xF (regNib rn) (regNib rm) 0x9, none)
  | .fmovStoreInd rm rn => (word16 0xF (regNib rn) (regNib rm) 0xA, none)
  | .fmovStorePreDec rm rn => (word16 0xF (regNib rn) (regNib rm) 0xB, none)
  | .fmov rm rn => (word16 0xF (regNib rn) (regNib rm) 0xC, none)
  | .fsts rn => (word16 0xF (regNib rn) 0x0 0xD, none)
  | .flds rm => (word16 0xF (regNib rm) 0x1 0xD, none)
  | .float rn => (word16 0xF (regNib rn) 0x2 0xD, none)
  | .ftrc rm => (word16 0xF (regNib rm) 0x3 0xD, none)
  | .fneg rn => (word16 0xF (regNib rn) 0x4 0xD, none)
  | .fabs rn => (word16 0xF (regNib rn) 0x5 0xD, none)
  | .fsqrt rn => (word16 0xF (regNib rn) 0x6 0xD, none)
  | .fldi0 rn => (word16 0xF (regNib rn) 0x8 0xD, none)
  | .fldi1 rn => (word16 0xF (regNib rn) 0x9 0xD, none)
  | .fcnvsd rn => (word16 0xF (regNib rn) 0xA 0xD, none)
  | .fcnvds rm => (word16 0xF (regNib rm) 0xB 0xD, none)
  | .psetmd imm => (word16 0xF imm 0xD 0xD, none)
  | .fschg => (word16 0xF 0x3 0xF 0xD, none)
  | .fpchg => (word16 0xF 0x7 0xF 0xD, none)
  | .frchg => (word16 0xF 0xB 0xF 0xD, none)
  | .fmac rm rn => (word16 0xF (regNib rn) (regNib rm) 0xE, none)
  | .movBStoreIdx4 rm rn ro disp => (word16 0x8 0xE (regNib ro) disp, some (word16 0x0 (regNib rn) (regNib rm) 0x4))
  | .movWStoreIdx4 rm rn ro disp => (word16 0x8 0xE (regNib ro) disp, some (word16 0x0 (regNib rn) (regNib rm) 0x5))
  | .movLStoreIdx4 rm rn ro disp => (word16 0x8 0xE (regNib ro) disp, some (word16 0x0 (regNib rn) (regNib rm) 0x6))
  | .movBLoadIdx4 rm ro disp rn => (word16 0x8 0xE (regNib ro) disp, some (word16 0x0 (regNib rn) (regNib rm) 0xC))
  | .movWLoadIdx4 rm ro disp rn => (word16 0x8 0xE (regNib ro) disp, some (word16 0x0 (regNib rn) (regNib rm) 0xD))
  | .movLLoadIdx4 rm ro disp rn => (word16 0x8 0xE (regNib ro) disp, some (word16 0x0 (regNib rn) (regNib rm) 0xE))
  | .movLStoreIdx8 rm rn ro disp => (word16 0x8 0xE (nibOf disp 1) (nibOf disp 0), some (word16 0x1 (regNib rn) (regNib rm) (regNib ro)))
  | .movBStoreDisp8 rm rn disp => (word16 0x8 0xE (nibOf disp 1) (nibOf disp 0), some (word16 0x2 (regNib rn) (regNib rm) 0x0))
  | .movWStoreDisp8 rm rn disp => (word16 0x8 0xE (nibOf disp 1) (nibOf disp 0), some (word16 0x2 (regNib rn) (regNib rm) 0x1))
  | .movLStoreDisp8 rm rn disp => (word16 0x8 0xE (nibOf disp 1) (nibOf disp 0), some (word16 0x2 (regNib rn) (regNib rm) 0x2))
  | .fmovStoreDisp8 rm rn disp => (word16 0x8 0xE (nibOf disp 1) (nibOf disp 0), some (word16 0x2 (regNib rn) (regNib rm) 0x4))
  | .fmovLoadDisp8 rm disp rn => (word16 0x8 0xE (nibOf disp 1) (nibOf disp 0), some (word16 0x2 (regNib rn) (regNib rm) 0x6))
  | .and3Imm8 rm imm rn => (word16 0x8 0xE (nibOf imm 1) (nibOf imm 0), some (word16 0x2 (regNib rn) (regNib rm) 0x9))
  | .xor3Imm8 rm imm rn => (word16 0x8 0xE (nibOf imm 1) (nibOf imm 0), some (word16 0x2 (regNib rn) (regNib rm) 0xA))
  | .or3Imm8 rm imm rn => (word16 0x8 0xE (nibOf imm 1) (nibOf imm 0), some (word16 0x2 (regNib rn) (regNib rm) 0xB))
  | .mul3Imm8 rm imm rn => (word16 0x8 0xE (nibOf imm 1) (nibOf imm 0), some (word16 0x2 (regNib rn) (regNib rm) 0xE))
  | .mul3NegImm8 rm imm rn => (word16 0x8 0xE (nibOf imm 1) (nibOf imm 0), some (word16 0x2 (regNib rn) (regNib rm) 0xF))
  | .cmpEqImm12 imm rn => (word16 0x8 0xE (nibOf imm 2) (nibOf imm 1), some (word16 0x3 (regNib rn) (nibOf imm 0) 0x0))
  | .cmpHsImm12 imm rn => (word16 0x8 0xE (nibOf imm 2) (nibOf imm 1), some (word16 0x3 (regNib rn) (nibOf imm 0) 0x2))
  | .cmpGeImm12 imm rn => (word16 0x8 0xE (nibOf imm 2) (nibOf imm 1), some (word16 0x3 (regNib rn) (nibOf imm 0) 0x3))
  | .cmpHiImm12 imm rn => (word16 0x8 0xE (nibOf imm 2) (nibOf imm 1), some (word16 0x3 (regNib rn) (nibOf imm 0) 0x6))
  | .cmpGtImm12 imm rn => (word16 0x8 0xE (nibOf imm 2) (nibOf imm 1), some (word16 0x3 (regNib rn) (nibOf imm 0) 0x7))
  | .sub3Imm8 rm imm rn => (word16 0x8 0xE (nibOf imm 1) (nibOf imm 0), some (word16 0x3 (regNib rn) (regNib rm) 0x8))
  | .and3NegImm8 rm imm rn => (word16 0x8 0xE (nibOf imm 1) (nibOf imm 0), some (word16 0x3 (regNib rn) (regNib rm) 0x9))
  | .add3Imm8 rm imm rn => (word16 0x8 0xE (nibOf imm 1) (nibOf imm 0), some (word16 0x3 (regNib rn) (regNib rm) 0xC))
  | .add3 rs rt rn => (word16 0x8 0xE (regNib rs) (regNib rt), some (word16 0x4 (regNib rn) 0x0 0x3))
  | .sub3 rs rt rn => (word16 0x8 0xE (regNib rs) (regNib rt), some (word16 0x4 (regNib rn) 0x1 0x3))
  | .mul3 rs rt rn => (word16 0x8 0xE (regNib rs) (regNib rt), some (word16 0x4 (regNib rn) 0x2 0x3))
  | .and3 rs rt rn => (word16 0x8 0xE (regNib rs) (regNib rt), some (word16 0x4 (regNib rn) 0x3 0x3))
  | .or3 rs rt rn => (word16 0x8 0xE (regNib rs) (regNib rt), some (word16 0x4 (regNib rn) 0x4 0x3))
  | .xor3 rs rt rn => (word16 0x8 0xE (regNib rs) (regNib rt), some (word16 0x4 (regNib rn) 0x5 0x3))
  | .shld3 rs rt rn => (word16 0x8 0xE (regNib rs) (regNib rt), some (word16 0x4 (regNib rn) 0x6 0x3))
  | .shlr3 rs rt rn => (word16 0x8 0xE (regNib rs) (regNib rt), some (word16 0x4 (regNib rn) 0x7 0x3))
  | .shad3 rs rt rn => (word16 0x8 0xE (regNib rs) (regNib rt), some (word16 0x4 (regNib rn) 0x8 0x3))
  | .shar3 rs rt rn => (word16 0x8 0xE (regNib rs) (regNib rt), some (word16 0x4 (regNib rn) 0x9 0x3))
  | .cselt rs rt rn => (word16 0x8 0xE (regNib rs) (regNib rt), some (word16 0x4 (regNib rn) 0xA 0x3))
  | .fadd3 rs rt rn => (word16 0x8 0xE (regNib rs) (regNib rt), some (word16 0x4 (regNib rn) 0xC 0x3))
  | .fsub3 rs rt rn => (word16 0x8 0xE (regNib rs) (regNib rt), some (word16 0x4 (regNib rn) 0xD 0x3))
  | .fmul3 rs rt rn => (word16 0x8 0xE (regNib rs) (regNib rt), some (word16 0x4 (regNib rn) 0xE 0x3))
  | .fdiv3 rs rt rn => (word16 0x8 0xE (regNib rs) (regNib rt), some (word16 0x4 (regNib rn) 0xF 0x3))
  | .shad3Imm8 rm imm rn => (word16 0x8 0xE (nibOf imm 1) (nibOf imm 0), some (word16 0x4 (regNib rn) (regNib rm) 0xC))
  | .shld3Imm8 rm imm rn => (word16 0x8 0xE (nibOf imm 1) (nibOf imm 0), some (word16 0x4 (regNib rn) (regNib rm) 0xD))
  | .movuBLoadIdx rm ro rn => (word16 0x8 0xE (regNib rm) (regNib ro), some (word16 0x4 (regNib rn) 0x0 0xE))
  | .movuWLoadIdx rm ro rn => (word16 0x8 0xE (regNib rm) (regNib ro), some (word16 0x4 (regNib rn) 0x1 0xE))
  | .fmovLoadIdx rm ro rn => (word16 0x8 0xE (regNib rm) (regNib ro), some (word16 0x4 (regNib rn) 0x2 0xE))
  | .fmovStoreIdx rm rn ro => (word16 0x8 0xE (regNib rm) (regNib ro), some (word16 0x4 (regNib rn) 0x3 0xE))
  | .movLLoadIdx8 rm ro disp rn => (word16 0x8 0xE (nibOf disp 1) (nibOf disp 0), some (word16 0x5 (regNib rn) (regNib rm) (regNib ro)))
  | .movBLoadDisp8 rm disp rn => (word16 0x8 0xE (nibOf disp 1) (nibOf disp 0), some (word16 0x6 (regNib rn) (regNib rm) 0x0))
  | .movWLoadDisp8 rm disp rn => (word16 0x8 0xE (nibOf disp 1) (nibOf disp 0), some (word16 0x6 (regNib rn) (regNib rm) 0x1))
  | .movLLoadDisp8 rm disp rn => (word16 0x8 0xE (nibOf disp 1) (nibOf disp 0), some (word16 0x6 (regNib rn) (regNib rm) 0x2))
  | .leaBIdx4 rm ro disp rn => (word16 0x8 0xE (regNib ro) disp, some (word16 0x6 (regNib rn) (regNib rm) 0x4))
  | .leaWIdx4 rm ro disp rn => (word16 0x8 0xE (regNib ro) disp, some (word16 0x6 (regNib rn) (regNib rm) 0x5))
  | .leaLIdx4 rm ro disp rn => (word16 0x8 0xE (regNib ro) disp, some (word16 0x6 (regNib rn) (regNib rm) 0x6))
  | .leaQIdx4 rm ro disp rn => (word16 0x8 0xE (regNib ro) disp, some (word16 0x6 (regNib rn) (regNib rm) 0x7))
  | .leaBDisp8 rm disp rn => (word16 0x8 0xE (nibOf disp 1) (nibOf disp 0), some (word16 0x6 (regNib rn) (regNib rm) 0x8))
  | .leaWDisp8 rm disp rn => (word16 0x8 0xE (nibOf disp 1) (nibOf disp 0), some (word16 0x6 (regNib rn) (regNib rm) 0x9))
  | .leaLDisp8 rm disp rn => (word16 0x8 0xE (nibOf disp 1) (nibOf disp 0), some (word16 0x6 (regNib rn) (regNib rm) 0xA))
  | .leaQDisp8 rm disp rn => (word16 0x8 0xE (nibOf disp 1) (nibOf disp 0), some (word16 0x6 (regNib rn) (regNib rm) 0xB))
  | .movuBLoadDisp8 rm disp rn => (word16 0x8 0xE (nibOf disp 1) (nibOf disp 0), some (word16 0x6 (regNib rn) (regNib rm) 0xC))
  | .movuWLoadDisp8 rm disp rn => (word16 0x8 0xE (nibOf disp 1) (nibOf disp 0), some (word16 0x6 (regNib rn) (regNib rm) 0xD))
  | .addImm16 imm rn => (word16 0x8 0xE (nibOf imm 3) (nibOf imm 2), some (word16 0x7 (regNib rn) (nibOf imm 1) (nibOf imm 0)))
  | .braN16 label => (word16 0x8 0xE (nibOf label 3) (nibOf label 2), some (word16 0x8 0x2 (nibOf label 1) (nibOf label 0)))
  | .bsrN16 label => (word16 0x8 0xE (nibOf label 3) (nibOf label 2), some (word16 0x8 0x3 (nibOf label 1) (nibOf label 0)))
  | .cmpEqImm16 imm => (word16 0x8 0xE (nibOf imm 3) (nibOf imm 2), some (word16 0x8 0x8 (nibOf imm 1) (nibOf imm 0)))
  | .bt16 label => (word16 0x8 0xE (nibOf label 3) (nibOf label 2), some (word16 0x8 0x9 (nibOf label 1) (nibOf label 0)))
  | .ldhf16Imm imm => (word16 0x8 0xE (nibOf imm 3) (nibOf imm 2), some (word16 0x8 0xA (nibOf imm 1) (nibOf imm 0)))
  | .bf16 label => (word16 0x8 0xE (nibOf label 3) (nibOf label 2), some (word16 0x8 0xB (nibOf label 1) (nibOf label 0)))
  | .ldif16 imm => (word16 0x8 0xE (nibOf imm 3) (nibOf imm 2), some (word16 0x8 0xC (nibOf imm 1) (nibOf imm 0)))
  | .btS16 label => (word16 0x8 0xE (nibOf label 3) (nibOf label 2), some (word16 0x8 0xD (nibOf label 1) (nibOf label 0)))
  | .bfS16 label => (word16 0x8 0xE (nibOf label 3) (nibOf label 2), some (word16 0x8 0xF (nibOf label 1) (nibOf label 0)))
  | .ldsh16 imm rn => (word16 0x8 0xE (nibOf imm 3) (nibOf imm 2), some (word16 0x9 (regNib rn) (nibOf imm 1) (nibOf imm 0)))
  | .movBStoreGbr12 rm disp => (word16 0x8 0xE (nibOf disp 2) (nibOf disp 1), some (word16 0xC 0x0 (regNib rm) (nibOf disp 0)))
  | .movWStoreGbr12 rm disp => (word16 0x8 0xE (nibOf disp 2) (nibOf disp 1), some (word16 0xC 0x1 (regNib rm) (nibOf disp 0)))
  | .movLStoreGbr12 rm disp => (word16 0x8 0xE (nibOf disp 2) (nibOf disp 1), some (word16 0xC 0x2 (regNib rm) (nibOf disp 0)))
  | .movBLoadGbr12 disp rn => (word16 0x8 0xE (nibOf disp 2) (nibOf disp 1), some (word16 0xC 0x4 (regNib rn) (nibOf disp 0)))
  | .movWLoadGbr12 disp rn => (word16 0x8 0xE (nibOf disp 2) (nibOf disp 1), some (word16 0xC 0x5 (regNib rn) (nibOf disp 0)))
  | .movLLoadGbr12 disp rn => (word16 0x8 0xE (nibOf disp 2) (nibOf disp 1), some (word16 0xC 0x6 (regNib rn) (nibOf disp 0)))
  | .tstImm12 imm rn => (word16 0x8 0xE (nibOf imm 2) (nibOf imm 1), some (word16 0xC 0x8 (regNib rn) (nibOf imm 0)))
  | .andImm12 imm rn => (word16 0x8 0xE (nibOf imm 2) (nibOf imm 1), some (word16 0xC 0x9 (regNib rn) (nibOf imm 0)))
  | .xorImm12 imm rn => (word16 0x8 0xE (nibOf imm 2) (nibOf imm 1), some (word16 0xC 0xA (regNib rn) (nibOf imm 0)))
  | .orImm12 imm rn => (word16 0x8 0xE (nibOf imm 2) (nibOf imm 1), some (word16 0xC 0xB (regNib rn) (nibOf imm 0)))
  | .movImm16 imm rn => (word16 0x8 0xE (nibOf imm 3) (nibOf imm 2), some (word16 0xE (regNib rn) (nibOf imm 1) (nibOf imm 0)))

/-! ### Words and bytes -/

/-- The high byte of a first word is 8A or 8E, so that a second word follows (30_encoding.md R121). -/
def isWide (w0 : Half) : Bool := nibOf w0 3 == 8 && (nibOf w0 2 == 0xA || nibOf w0 2 == 0xE)

/-- The immediate of MOVI24: the low byte of the first word, then the second word (30_encoding.md R133). -/
def imm24 (w0 w1 : Half) : BitVec 24 := nibOf w0 1 ++ nibOf w0 0 ++ w1

/-- The decoder on words: the second word matters only to a 32-bit form (30_encoding.md R121). -/
def decode (w0 w1 : Half) : Decoded :=
  match isWide w0, nibOf w0 2 == 0xA with
  | true, true => .instr (.movi24 (imm24 w0 w1))
  | true, false =>
    decode32 (nibOf w0 1) (nibOf w0 0) (nibOf w1 3) (nibOf w1 2) (nibOf w1 1) (nibOf w1 0)
  | false, _ => decode16 (nibOf w0 3) (nibOf w0 2) (nibOf w0 1) (nibOf w0 0)

/-- Two bytes make a 16-bit word in the machine's byte order (20_memory.md R82). -/
def halfOfBytes (e : Endian) (x y : Byte) : Half :=
  match e with
  | .little => y ++ x
  | .big => x ++ y

/-- The two bytes of a 16-bit word, the one at the lower address first (20_memory.md R82). -/
def bytesOfHalf (e : Endian) (w : Half) : List Byte :=
  match e with
  | .little => [w.extractLsb' 0 8, w.extractLsb' 8 8]
  | .big => [w.extractLsb' 8 8, w.extractLsb' 0 8]

/-- What the decoder reads from a list of bytes, with the bytes that follow; `none` when the bytes end inside
an instruction. -/
def decodeBytes (e : Endian) : List Byte → Option (Decoded × List Byte)
  | x :: y :: rest =>
    match isWide (halfOfBytes e x y) with
    | false => some (decode (halfOfBytes e x y) 0, rest)
    | true =>
      match rest with
      | z :: t :: rest' => some (decode (halfOfBytes e x y) (halfOfBytes e z t), rest')
      | _ => none
  | _ => none

/-- The bytes of an instruction in memory, the first word at the lower address (20_memory.md R82). -/
def encodeBytes (e : Endian) (i : Instr) : List Byte :=
  match encode i with
  | (w0, none) => bytesOfHalf e w0
  | (w0, some w1) => bytesOfHalf e w0 ++ bytesOfHalf e w1

/-- The first and second word of an instruction whose bits are `w`, numbered as spec/opcode_table.json numbers them.
The table writes a 32-bit form with its first word, the prefix, in bits 31 to 16 (its `match` of `MOV #imm16s, Rn` is
8E00E000); a numbering with the prefix in the low half is read too, where the high half is no prefix. -/
def tableWords (nbits w : Nat) : Half × Half :=
  let lo := BitVec.ofNat 16 w
  let hi := BitVec.ofNat 16 (w >>> 16)
  match decide (nbits ≤ 16), isWide hi with
  | true, _ => (lo, 0)
  | false, true => (hi, lo)
  | false, false => (lo, hi)

/-- The instruction the decoder reads from an instruction whose bits are `w`, laid out as a little-endian machine
stores it (20_memory.md R82); `none` where the decoder rejects it. -/
def decodeTableWord (nbits w : Nat) : Option Instr :=
  match decodeBytes .little
      (bytesOfHalf .little (tableWords nbits w).1 ++ bytesOfHalf .little (tableWords nbits w).2) with
  | some (.instr i, _) => some i
  | _ => none

end Sys2Proof

end
end

