-- ==== Sys2Proof/Machine/Memory.lean ====
section
/-! DEFINITION. Memory as plain data: bytes by physical address, in one canonical form (20_memory.md R81). -/

namespace Sys2Proof.Machine

/-- What a byte of memory that nothing has written reads as. DESIGN CHOICE, unsafe. -/
def unwrittenByte : Byte := 0

/-- The byte at a physical address. -/
def memGet : List Host.Cell → Nat → Byte
  | [], _ => unwrittenByte
  | c :: m, a => if c.1 = a then c.2 else memGet m a

/-- Memory without an entry for `a`. -/
def memErase : List Host.Cell → Nat → List Host.Cell
  | [], _ => []
  | c :: m, a => if c.1 = a then memErase m a else c :: memErase m a

/-- Memory with an entry for `a` put before the first greater address. -/
def memInsert : List Host.Cell → Nat → Byte → List Host.Cell
  | [], a, v => [(a, v)]
  | c :: m, a, v => if a < c.1 then (a, v) :: c :: m else c :: memInsert m a v

/-- The byte at `a` becomes `v`; an entry that would equal what an unlisted address reads as is left out. -/
def memSet (m : List Host.Cell) (a : Nat) (v : Byte) : List Host.Cell :=
  if v = unwrittenByte then memErase m a else memInsert (memErase m a) a v

/-- Every address of the list is greater than `a`. -/
def allAbove (a : Nat) : List Host.Cell → Bool
  | [] => true
  | c :: m => decide (a < c.1) && allAbove a m

/-- The canonical form of memory: addresses rise strictly, and no entry equals what an unlisted address reads as. -/
def Memory.wf : List Host.Cell → Bool
  | [] => true
  | c :: m => allAbove c.1 m && c.2 != unwrittenByte && Memory.wf m

/-- The canonical memory that holds the bytes listed (20_memory.md R92). -/
def memOfCells : List Host.Cell → List Host.Cell
  | [] => []
  | c :: cs => memSet (memOfCells cs) c.1 c.2

end Sys2Proof.Machine
end

