-- ==== Sys2Proof/Machine/State.lean ====
section
/-! DEFINITION. The state of the machine (10_state.md), the ways a step can stop, and the state after reset. -/

namespace Sys2Proof.Machine

/-- A synchronous exception (60_exceptions.md R600), with the address that goes to TEA (20_memory.md R86) or the
immediate that goes to TRAEVT (44_system.md R472) where the cause has one. -/
inductive Exc where
  /-- A load or fetch finds no valid translation. -/
  | rtlbMiss (va : Word)
  /-- A store finds no valid translation. -/
  | wtlbMiss (va : Word)
  /-- A permitted store to a page whose D bit is 0. -/
  | firstWrite (va : Word)
  /-- A user-mode load or fetch of a supervisor page. -/
  | readProt (va : Word)
  /-- A store to a page that is not writable, or a user-mode store to a supervisor page. -/
  | writeProt (va : Word)
  /-- A misaligned load, a fetch from an odd address, a user-mode load or fetch with address bit 31 set or of a
  memory-mapped register. -/
  | rAddErr (va : Word)
  /-- The same for a store. -/
  | wAddErr (va : Word)
  /-- Floating-point exception: no rule raises it (45_fpu.md R505(e)). -/
  | fpuExc
  /-- More than one TLB entry matches: cannot arise without a TLB in the model (20_memory.md R107). -/
  | tlbMultiHit (va : Word)
  /-- TRAPA, with its immediate. -/
  | trap (imm : BitVec 8)
  /-- Unassigned encoding, or a privileged instruction in user mode. -/
  | resInst
  /-- Slot-illegal instruction, or what would raise RESINST, in a delay slot. -/
  | illSlot
  /-- BRK. -/
  | uBrk
  /-- FPU instruction with SR.FD = 1 or without an FPU. -/
  | fpuDis
  /-- The same in a delay slot. -/
  | slotFpuDis
  deriving DecidableEq, Repr

/-- Why the machine stops for good. -/
inductive Fault where
  /-- Raised by `raise` when SR.BL = 1: the spec leaves the outcome undefined and calls the state stuck
  (60_exceptions.md R616, 93_implementation_defined.md U22). Safe: nothing can be proved beyond it. -/
  | exceptionWhileBlocked (e : Exc)
  /-- Raised by an access to a physical address that no region of the platform covers (20_memory.md R92).
  Safe: nothing can be proved beyond it. -/
  | unmappedAddress (pa : Nat)
  /-- Raised by `step` of a sleeping core for which no request that could wake it is to come: the final state of SLEEP,
  from which the rules give no further step (44_system.md R468, 70_reset_and_hazards.md R720(a), U40). Safe: nothing
  can be proved beyond it. -/
  | asleepForever
  deriving DecidableEq, Repr

/-- Why the model gives no meaning. Every refusal is safe: nothing can be proved of what the hardware does there. -/
inductive Refusal where
  /-- Raised by an arm of `exec` whose instruction has no meaning yet; no arm uses it. -/
  | notModelled (mnemonic : String)
  /-- Raised by every access when ADDR32 = true (20_memory.md R70, U31). -/
  | addressing32
  /-- Raised by `step` on an encoding of a larger architecture (30_encoding.md R161, U5). -/
  | outOfScopeEncoding
  /-- Raised by `step` on a deprecated encoding (30_encoding.md R163, U4). -/
  | deprecatedEncoding (form : String)
  /-- Raised by a scaled-index access with index register R15 (40_data_transfer.md R203, U1). -/
  | reservedIndexRegister
  /-- Raised by LEA with index register R0 or R15 (40_data_transfer.md R271, U2). -/
  | undefinedLeaIndex
  /-- Raised by an access to an address of range 7 where neither a register nor a device stands (20_memory.md R73,
  U10). -/
  | reservedAddress (va : Word)
  /-- Raised by an access to a register window at an address that holds no register (20_memory.md R73, U10). -/
  | reservedRegisterSpace (pa : Nat)
  /-- Raised by a byte or word access, or a fetch, at a memory-mapped register (10_state.md R45, U29). -/
  | registerAccessWidth (pa : Nat)
  /-- Raised by a store that sets a reserved bit of MMUCR (20_memory.md R100, U11). -/
  | mmucrReservedBits
  /-- Raised by a store that sets MMUCR.AT on a core without an MMU (20_memory.md R106). -/
  | mmuAbsent
  /-- Raised by a valid page-table entry of a size other than 4 kB (20_memory.md R104, U12). -/
  | pageSizeReserved
  /-- Raised by a page table that lies outside memory (20_memory.md R108, U7). -/
  | pageTableOutsideMemory
  /-- Raised by FMAC with FPSCR.PR = 1, and by FCNVSD and FCNVDS with PR = 0 (45_fpu.md R503, U16). -/
  | undefinedFpuMode
  /-- Raised by an arithmetic FPU instruction with FPSCR.RM = 2 or 3 (45_fpu.md R503, R505(b), U16). -/
  | undefinedRounding
  /-- Raised on a Basic-profile core by what needs the XF bank (45_fpu.md R501, U16). -/
  | absentFpuBank
  /-- Raised by LDHF16 of an infinity, NaN or denormal immediate (45_fpu.md R537, U20). -/
  | undefinedHalfImmediate
  deriving DecidableEq, Repr

/-- What is carried from a branch to its delay slot (10_state.md R27, 43_branch.md R400). -/
structure Pending where
  /-- Where execution goes on after the slot instruction. -/
  target : Word
  /-- The address of the branch, which SPC receives if the slot instruction raises. -/
  branchPc : Word
  /-- The MD the slot instruction is fetched with: the one in force before an RTE (44_system.md R470). -/
  fetchMd : Bool
  deriving DecidableEq, Repr

/-- Which reset (70_reset_and_hazards.md R700). -/
inductive ResetCause where
  | powerOn
  | manual
  deriving DecidableEq, Repr

/-- What the environment presents at one instruction boundary (60_exceptions.md R620, 70_reset_and_hazards.md R700). -/
inductive Event where
  /-- Nothing. -/
  | quiet
  /-- A maskable interrupt request. -/
  | irq (level : BitVec 4) (code : BitVec 12)
  /-- The non-maskable request. -/
  | nmi
  /-- A reset. -/
  | reset (cause : ResetCause)
  deriving DecidableEq, Repr

/-- The size of an access (00_scope.md R9, 20_memory.md R84). -/
inductive Width where
  | byte
  | half
  | long
  deriving DecidableEq, Repr

/-- One access to a device (20_memory.md R90). -/
structure DeviceAccess where
  write : Bool
  pa : Nat
  width : Width
  value : Word
  deriving DecidableEq, Repr

/-- The state of the machine (10_state.md R20, R60). -/
structure State where
  /-- R0_A..R7_A (R22). -/
  bankA : Vector Word 8
  /-- R0_B..R7_B (R22). -/
  bankB : Vector Word 8
  /-- R8..R15, which are not banked (R22). -/
  high : Vector Word 8
  /-- The address of the next instruction (R25). -/
  pc : Word
  /-- The delay-slot state (R27). -/
  pending : Option Pending
  /-- The status register as stored: bits outside SR_MASK are 0 (R30, R31). -/
  sr : Word
  /-- Global Base Register (R40). -/
  gbr : Word
  /-- Vector Base Register (R40). -/
  vbr : Word
  /-- Saved Status Register (R40). -/
  ssr : Word
  /-- Saved PC (R40). -/
  spc : Word
  /-- Saved R15 (R40). -/
  sgr : Word
  /-- Debug Base Register (R40). -/
  dbr : Word
  /-- Multiply-Accumulate High (R41). -/
  mach : Word
  /-- Multiply-Accumulate Low (R41). -/
  macl : Word
  /-- Procedure Register (R42). -/
  pr : Word
  /-- FPU Load Register (R43). -/
  fpul : Word
  /-- FPU Control Register (R44). -/
  fpscr : Word
  /-- FPU Bank A (R50). -/
  fa : Vector Word 16
  /-- FPU Bank B (R50). -/
  fb : Vector Word 16
  /-- Page Table Entry High (R45). -/
  pteh : Word
  /-- Page Table Entry Low (R45). -/
  ptel : Word
  /-- Translation Table Base (R45). -/
  ttb : Word
  /-- Translation Table Address (R45). -/
  tea : Word
  /-- MMU Control Register (R45, 20_memory.md R100). -/
  mmucr : Word
  /-- Trap Event (R45). -/
  traevt : Word
  /-- Exception Event (R45). -/
  expevt : Word
  /-- Interrupt Event (R45). -/
  intevt : Word
  /-- Memory by physical address, in canonical form (20_memory.md R81). -/
  mem : List Host.Cell
  /-- The bytes that stores replaced and no later ICBI covered: what a fetch may still see (20_memory.md R113). -/
  stale : List Host.Cell
  /-- The sleep state (R60, 44_system.md R468). -/
  asleep : Bool
  /-- What the environment will present at the boundaries to come; after the last, nothing (60_exceptions.md R620). -/
  events : List Event
  /-- The model's own: how many free values have been drawn. -/
  free : Nat
  /-- The model's own: the device accesses made so far, newest first (20_memory.md R90). -/
  devLog : List DeviceAccess
  /-- The implementation parameters (00_scope.md R6). -/
  cfg : Config
  deriving DecidableEq, Repr

/-- The state right after a power-on reset of a machine with parameters `cfg` (10_state.md R65, 70_reset_and_hazards.md
R700). What the table calls unspecified is 0: DESIGN CHOICE, unsafe. Memory holds what the platform put there
(20_memory.md R92). -/
def State.initial (cfg : Config) : State :=
  { bankA := Vector.replicate 8 0
    bankB := Vector.replicate 8 0
    high := Vector.replicate 8 0
    pc := cfg.resetPc
    pending := none
    sr := 0x700000F0
    gbr := 0
    vbr := 0
    ssr := 0
    spc := 0
    sgr := 0
    dbr := 0
    mach := 0
    macl := 0
    pr := 0
    fpul := 0
    fpscr := 0x00040001
    fa := Vector.replicate 16 0
    fb := Vector.replicate 16 0
    pteh := 0
    ptel := 0
    ttb := 0
    tea := 0
    mmucr := 0
    traevt := 0
    expevt := 0
    intevt := 0
    mem := memOfCells cfg.contents
    stale := []
    asleep := false
    events := []
    free := 0
    devLog := []
    cfg := cfg }

/-- The machine right after reset. -/
def State.reset : State := State.initial Config.standard

end Sys2Proof.Machine
end

