-- ==== Sys2Proof/Machine/Ops.lean ====
section
/-! DEFINITION. The named operations of the machine over registers, flags and memory, taking an exception, and the
checks every meaning shares. Every state update is one record update, so that each field after it is read off by `rfl`. -/

namespace Sys2Proof.Machine

/-- What a meaning answers. -/
abbrev Res := Host.Outcome State Fault Refusal

/-! ### Bits of a register -/

/-- `w` with bit `i` set to `b` (00_scope.md R7). -/
def setBit (w : Word) (i : Nat) (b : Bool) : Word :=
  if b then w ||| (1#32 <<< i) else w &&& ~~~(1#32 <<< i)

/-- The bits of SR that exist: T, S, IM, Q, M, FD, BL, RB, MD (10_state.md R31). -/
def srMask : Word := 0x700083F3

/-- SR.T (10_state.md R30). -/
def State.t (s : State) : Bool := s.sr.getLsbD 0
/-- SR.S (10_state.md R30). -/
def State.sBit (s : State) : Bool := s.sr.getLsbD 1
/-- SR.IM (10_state.md R30). -/
def State.im (s : State) : BitVec 4 := s.sr.extractLsb' 4 4
/-- SR.Q (10_state.md R30). -/
def State.q (s : State) : Bool := s.sr.getLsbD 8
/-- SR.M (10_state.md R30). -/
def State.m (s : State) : Bool := s.sr.getLsbD 9
/-- SR.FD (10_state.md R30). -/
def State.fd (s : State) : Bool := s.sr.getLsbD 15
/-- SR.BL (10_state.md R30). -/
def State.bl (s : State) : Bool := s.sr.getLsbD 28
/-- SR.RB (10_state.md R30). -/
def State.rb (s : State) : Bool := s.sr.getLsbD 29
/-- SR.MD: true is supervisor mode (10_state.md R30, R37). -/
def State.md (s : State) : Bool := s.sr.getLsbD 30

/-- FPSCR.RM (10_state.md R44). -/
def State.rm (s : State) : BitVec 2 := s.fpscr.extractLsb' 0 2
/-- FPSCR.DN (10_state.md R44). -/
def State.dn (s : State) : Bool := s.fpscr.getLsbD 18
/-- FPSCR.PR (10_state.md R44). -/
def State.prec (s : State) : Bool := s.fpscr.getLsbD 19
/-- FPSCR.SZ (10_state.md R44). -/
def State.sz (s : State) : Bool := s.fpscr.getLsbD 20
/-- FPSCR.FR (10_state.md R44). -/
def State.frBit (s : State) : Bool := s.fpscr.getLsbD 21

/-- `T <- b`. -/
def State.setT (s : State) (b : Bool) : State := { s with sr := setBit s.sr 0 b }
/-- `SR.S <- b`. -/
def State.setS (s : State) (b : Bool) : State := { s with sr := setBit s.sr 1 b }
/-- `SR.Q <- q; SR.M <- m; T <- t`, the state of the divide step (41_arithmetic.md R315). -/
def State.setQMT (s : State) (q m t : Bool) : State :=
  { s with sr := setBit (setBit (setBit s.sr 8 q) 9 m) 0 t }
/-- Every write of a whole value to SR stores it masked (10_state.md R31). -/
def State.setSr (s : State) (v : Word) : State := { s with sr := v &&& srMask }

/-! ### General registers -/

/-- Bank B is active: `SR.MD = 1 and SR.RB = 1` (10_state.md R22). -/
def State.bankBActive (s : State) : Bool := s.md && s.rb

/-- The place of a register in its bank of eight. -/
def bankIndex (r : Reg) : Nat := r.val % 8

/-- A place in a bank is below eight. -/
theorem bankIndex_lt (r : Reg) : bankIndex r < 8 := Nat.mod_lt _ (by decide)

/-- `R[r]` as currently banked (10_state.md R21, R22). -/
def State.reg (s : State) (r : Reg) : Word :=
  if 8 ≤ r.val then s.high[bankIndex r]'(bankIndex_lt r)
  else if s.bankBActive then s.bankB[bankIndex r]'(bankIndex_lt r)
  else s.bankA[bankIndex r]'(bankIndex_lt r)

/-- `R[r] <- v` as currently banked (10_state.md R21, R22). -/
def State.setReg (s : State) (r : Reg) (v : Word) : State :=
  { s with
    high := if 8 ≤ r.val then s.high.set (bankIndex r) v (bankIndex_lt r) else s.high
    bankB := if r.val < 8 ∧ s.bankBActive = true then s.bankB.set (bankIndex r) v (bankIndex_lt r) else s.bankB
    bankA := if r.val < 8 ∧ s.bankBActive = false then s.bankA.set (bankIndex r) v (bankIndex_lt r) else s.bankA }

/-- `RB[b]`: register `b` of the bank that is not active (10_state.md R23). -/
def State.otherBank (s : State) (b : BReg) : Word :=
  if s.bankBActive then s.bankA[b.val]'b.isLt else s.bankB[b.val]'b.isLt

/-- `RB[b] <- v` (10_state.md R23). -/
def State.setOtherBank (s : State) (b : BReg) (v : Word) : State :=
  { s with
    bankA := if s.bankBActive then s.bankA.set b.val v b.isLt else s.bankA
    bankB := if s.bankBActive then s.bankB else s.bankB.set b.val v b.isLt }

/-! ### Floating-point registers -/

/-- `FR[r]`: Bank A when FPSCR.FR = 0, Bank B when it is 1 (10_state.md R50). -/
def State.fr (s : State) (r : FReg) : Word :=
  if s.frBit then s.fb[r.val]'r.isLt else s.fa[r.val]'r.isLt

/-- `FR[r] <- v` (10_state.md R50). -/
def State.setFr (s : State) (r : FReg) (v : Word) : State :=
  { s with
    fa := if s.frBit then s.fa else s.fa.set r.val v r.isLt
    fb := if s.frBit then s.fb.set r.val v r.isLt else s.fb }

/-- The pair field names a pair of the XF bank: it is odd (10_state.md R51). -/
def pairOdd (r : FReg) : Bool := r.val % 2 == 1

/-- The even-numbered cell of `pair(r)`, which holds the high half (45_fpu.md R504). -/
def pairHi (r : FReg) : Nat := r.val / 2 * 2
/-- The odd-numbered cell of `pair(r)`, which holds the low half (45_fpu.md R504). -/
def pairLo (r : FReg) : Nat := r.val / 2 * 2 + 1
/-- The high cell is one of the sixteen. -/
theorem pairHi_lt (r : FReg) : pairHi r < 16 := by have := r.isLt; unfold pairHi; omega
/-- The low cell is one of the sixteen. -/
theorem pairLo_lt (r : FReg) : pairLo r < 16 := by have := r.isLt; unfold pairLo; omega

/-- `pair(r)` lies in Bank B: an even field under FR = 1, or an odd field under FR = 0 (10_state.md R50, R51). -/
def State.pairInB (s : State) (r : FReg) : Bool := s.frBit != pairOdd r

/-- `D(r)`: the 64-bit value of `pair(r)` (45_fpu.md R504). -/
def State.dr (s : State) (r : FReg) : DWord :=
  if s.pairInB r then s.fb[pairHi r]'(pairHi_lt r) ++ s.fb[pairLo r]'(pairLo_lt r)
  else s.fa[pairHi r]'(pairHi_lt r) ++ s.fa[pairLo r]'(pairLo_lt r)

/-- The high half of a double (45_fpu.md R504). -/
def hiWord (v : DWord) : Word := v.extractLsb' 32 32
/-- The low half of a double (45_fpu.md R504). -/
def loWord (v : DWord) : Word := v.extractLsb' 0 32

/-- `D(r) <- v`: both cells of `pair(r)` are written (45_fpu.md R504). -/
def State.setDr (s : State) (r : FReg) (v : DWord) : State :=
  { s with
    fa := if s.pairInB r then s.fa
      else (s.fa.set (pairHi r) (hiWord v) (pairHi_lt r)).set (pairLo r) (loWord v) (pairLo_lt r)
    fb := if s.pairInB r then (s.fb.set (pairHi r) (hiWord v) (pairHi_lt r)).set (pairLo r) (loWord v) (pairLo_lt r)
      else s.fb }

/-! ### Where execution goes on -/

/-- `next` for an instruction of `n` bytes: past it, or to the pending target when it stands in a delay slot
(00_scope.md R11, 43_branch.md R400). -/
def State.advance (s : State) (n : Word) : State :=
  { s with
    pc := match s.pending with
      | none => s.pc + n
      | some p => p.target
    pending := none }

/-- `pc <- target`: a branch without delay slot (00_scope.md R11). -/
def State.jump (s : State) (target : Word) : State := { s with pc := target, pending := none }

/-- `delay(target)` for a branch of `n` bytes: the next instruction executed is the one after it, and then the one at
`target` (00_scope.md R11, 43_branch.md R400). -/
def State.delay (s : State) (n target : Word) : State :=
  { s with pc := s.pc + n, pending := some { target := target, branchPc := s.pc, fetchMd := s.md } }

/-- The instruction being executed stands in a delay slot (10_state.md R27). -/
def State.inSlot (s : State) : Bool := s.pending.isSome

/-- A 16-bit instruction completes. -/
def done16 (s : State) : Res := .next (s.advance 2)

/-- A 32-bit instruction completes. -/
def done32 (s : State) : Res := .next (s.advance 4)

/-! ### Memory as bytes -/

/-- The bytes of the low `8n` bits of a value, lowest address first (20_memory.md R81). -/
def bytesOf (e : Endian) (w : Width) (v : Word) : List Byte :=
  match w, e with
  | .byte, _ => [v.extractLsb' 0 8]
  | .half, .little => [v.extractLsb' 0 8, v.extractLsb' 8 8]
  | .half, .big => [v.extractLsb' 8 8, v.extractLsb' 0 8]
  | .long, .little => [v.extractLsb' 0 8, v.extractLsb' 8 8, v.extractLsb' 16 8, v.extractLsb' 24 8]
  | .long, .big => [v.extractLsb' 24 8, v.extractLsb' 16 8, v.extractLsb' 8 8, v.extractLsb' 0 8]

/-- Two bytes, lowest address first, as a 16-bit value (20_memory.md R81). -/
def half2 (e : Endian) (x y : Byte) : Half :=
  match e with
  | .little => y ++ x
  | .big => x ++ y

/-- Four bytes, lowest address first, as a 32-bit value (20_memory.md R81). -/
def word4 (e : Endian) (x y z t : Byte) : Word :=
  match e with
  | .little => t ++ z ++ y ++ x
  | .big => x ++ y ++ z ++ t

/-- The `8n`-bit value at a physical address, zero-extended (20_memory.md R81). -/
def loadBytes (e : Endian) (m : List Host.Cell) (pa : Nat) (w : Width) : Word :=
  match w with
  | .byte => (memGet m pa).setWidth 32
  | .half => (half2 e (memGet m pa) (memGet m (pa + 1))).setWidth 32
  | .long => word4 e (memGet m pa) (memGet m (pa + 1)) (memGet m (pa + 2)) (memGet m (pa + 3))

/-- Memory after the bytes `bs` are stored from `pa` upward. -/
def memSetList (m : List Host.Cell) (pa : Nat) : List Byte → List Host.Cell
  | [] => m
  | b :: bs => memSetList (memSet m pa b) (pa + 1) bs

/-- The stale bytes after `bs` are stored from `pa` upward over memory `m`: each old byte that differs from the new
one is remembered once (20_memory.md R113). -/
def noteStores (m st : List Host.Cell) (pa : Nat) : List Byte → List Host.Cell
  | [] => st
  | b :: bs =>
    noteStores m (if memGet m pa = b ∨ (pa, memGet m pa) ∈ st then st else (pa, memGet m pa) :: st) (pa + 1) bs

/-- The stale bytes an ICBI of the 16-bit word at `pa` leaves (20_memory.md R113, U14). -/
def dropStale (pa : Nat) : List Host.Cell → List Host.Cell
  | [] => []
  | c :: st => if c.1 = pa ∨ c.1 = pa + 1 then dropStale pa st else c :: dropStale pa st

/-- The bytes a fetch at `a` may see besides the one in memory (20_memory.md R113). -/
def staleAt (a : Nat) : List Host.Cell → List Byte
  | [] => []
  | c :: st => if c.1 = a then c.2 :: staleAt a st else staleAt a st

/-! ### Free values -/

/-- One more free value has been drawn. -/
def State.drawn (s : State) : State := { s with free := s.free + 1 }

/-! ### Taking an exception -/

/-- The code of an exception (60_exceptions.md R600). -/
def Exc.code : Exc → Word
  | .rtlbMiss _ => 0x040
  | .wtlbMiss _ => 0x060
  | .firstWrite _ => 0x080
  | .readProt _ => 0x0A0
  | .writeProt _ => 0x0C0
  | .rAddErr _ => 0x0E0
  | .wAddErr _ => 0x100
  | .fpuExc => 0x120
  | .tlbMultiHit _ => 0x140
  | .trap _ => 0x160
  | .resInst => 0x180
  | .illSlot => 0x1A0
  | .uBrk => 0x1E0
  | .fpuDis => 0x800
  | .slotFpuDis => 0x820

/-- The vector offset: 0x400 for the two TLB misses, else 0x100 (60_exceptions.md R611). -/
def Exc.vector : Exc → Word
  | .rtlbMiss _ => 0x400
  | .wtlbMiss _ => 0x400
  | _ => 0x100

/-- The value the exception leaves in TEA, which only the eight memory exceptions change (20_memory.md R86). -/
def Exc.teaAfter (e : Exc) (old : Word) : Word :=
  match e with
  | .rtlbMiss va => va
  | .wtlbMiss va => va
  | .firstWrite va => va
  | .readProt va => va
  | .writeProt va => va
  | .rAddErr va => va
  | .wAddErr va => va
  | .tlbMultiHit va => va
  | _ => old

/-- The value the exception leaves in TRAEVT, which only TRAPA changes: bits 9:2 hold its immediate
(44_system.md R472). -/
def Exc.traevtAfter (e : Exc) (old : Word) : Word :=
  match e with
  | .trap imm => (imm.setWidth 32) <<< 2
  | _ => old

/-- The address an exception saves in SPC: the branch's for a slot instruction, else the instruction's, and for TRAPA
the one after it (60_exceptions.md R612). -/
def Exc.returnAddress (e : Exc) (s : State) : Word :=
  match s.pending, e with
  | some p, _ => p.branchPc
  | none, .trap _ => s.pc + 2
  | none, _ => s.pc

/-- Trap entry for a synchronous exception (60_exceptions.md R610): the pc, SR and R15 are saved, the code and the
recorded address or immediate written, MD, RB and BL set, and execution goes on at VBR plus the vector offset. -/
def enterException (e : Exc) (s : State) : State :=
  { s with
    spc := e.returnAddress s
    ssr := s.sr
    sgr := s.reg 15
    expevt := e.code
    tea := e.teaAfter s.tea
    traevt := e.traevtAfter s.traevt
    sr := s.sr ||| 0x70000000
    pending := none
    pc := s.vbr + e.vector }

/-- Trap entry for an accepted interrupt (60_exceptions.md R610, R621): the code goes to INTEVT, the vector is 0x600,
and a sleeping core wakes (44_system.md R468). -/
def enterInterrupt (code : BitVec 12) (s : State) : State :=
  { s with
    spc := s.pc
    ssr := s.sr
    sgr := s.reg 15
    intevt := code.setWidth 32
    sr := s.sr ||| 0x70000000
    pending := none
    pc := s.vbr + 0x600
    asleep := false }

/-- `raise e`: the instruction is abandoned and trap entry performed; with SR.BL = 1 the outcome is undefined and the
machine is stuck (60_exceptions.md R610, R616). -/
def raise (e : Exc) (s : State) : Res :=
  if s.bl then .fault (.exceptionWhileBlocked e) else .next (enterException e s)

/-- Return from an exception (44_system.md R470): SR from SSR, masked, R15 from SGR, and a delayed branch to SPC whose
slot is fetched with the MD in force before it. -/
def returnFromException (s : State) : State :=
  { s with
    sr := s.ssr &&& srMask
    high := s.high.set 7 s.sgr
    pending := some { target := s.spc, branchPc := s.pc, fetchMd := s.md }
    pc := s.pc + 2 }

/-- The state after a reset that interrupts a run: every register at its value after reset, EXPEVT by cause
(70_reset_and_hazards.md R700). Memory, what the environment will present and the model's own records stay. -/
def State.afterReset (s : State) (cause : ResetCause) : State :=
  { State.initial s.cfg with
    expevt := match cause with
      | .powerOn => 0x000
      | .manual => 0x020
    mem := s.mem
    stale := s.stale
    events := s.events
    free := s.free
    devLog := s.devLog }

/-- The interrupt a request leads to at this boundary: the code, when the request is accepted
(60_exceptions.md R621). -/
def acceptedCode (s : State) (ev : Event) : Option (BitVec 12) :=
  if s.pending.isSome || s.bl then none
  else match ev with
    | .nmi => some 0x1C0
    | .irq level code => if s.im < level then some code else none
    | .quiet => none
    | .reset _ => none

/-! ### Checks every meaning shares -/

/-- Slot-illegal instructions raise ILLSLOT in a delay slot (43_branch.md R401). -/
def notInSlot (s : State) (k : Res) : Res :=
  if s.inSlot then raise .illSlot s else k

/-- Privileged instructions raise RESINST in user mode, ILLSLOT in a slot (60_exceptions.md R603, R630). -/
def privileged (s : State) (k : Res) : Res :=
  if s.md then k else if s.inSlot then raise .illSlot s else raise .resInst s

/-- FPU instructions raise FPUDIS, or SLOTFPUDIS in a slot, with SR.FD = 1 or without an FPU
(45_fpu.md R501, R502). -/
def fpuGated (s : State) (k : Res) : Res :=
  if s.fd || s.cfg.fpuProfile == .none then
    if s.inSlot then raise .slotFpuDis s else raise .fpuDis s
  else k

/-! ### Access to memory -/

/-- The outcome of a part of an access: a value and the state after it, an exception to raise, or a stop. -/
inductive Access (α : Type) where
  | ok (a : α) (s : State)
  | exc (e : Exc) (s : State)
  | fault (f : Fault)
  | refused (r : Refusal)

/-- Go on with an access. -/
def Access.bind {α β : Type} (x : Access α) (k : α → State → Access β) : Access β :=
  match x with
  | .ok a s => k a s
  | .exc e s => .exc e s
  | .fault f => .fault f
  | .refused r => .refused r

/-- End an instruction with what an access gave: an exception is raised (00_scope.md R11). -/
def Access.andThen {α : Type} (x : Access α) (k : α → State → Res) : Res :=
  match x with
  | .ok a s => k a s
  | .exc e s => raise e s
  | .fault f => .fault f
  | .refused r => .refused r

/-- The kinds of access translation tells apart; a fetch is a read (20_memory.md R87, R105). -/
inductive AccessKind where
  | read
  | write
  deriving DecidableEq, Repr

/-- RADDERR or WADDERR (20_memory.md R86). -/
def AccessKind.addressError (k : AccessKind) (va : Word) : Exc :=
  match k with
  | .read => .rAddErr va
  | .write => .wAddErr va

/-- RTLBMISS or WTLBMISS (20_memory.md R107). -/
def AccessKind.miss (k : AccessKind) (va : Word) : Exc :=
  match k with
  | .read => .rtlbMiss va
  | .write => .wtlbMiss va

/-- READPROT or WRITEPROT (20_memory.md R107). -/
def AccessKind.protection (k : AccessKind) (va : Word) : Exc :=
  match k with
  | .read => .readProt va
  | .write => .writeProt va

/-- The number of bytes of an access (20_memory.md R84). -/
def Width.bytes : Width → Nat
  | .byte => 1
  | .half => 2
  | .long => 4

/-- The alignment an access needs (20_memory.md R83). -/
def aligned (w : Width) (va : Word) : Bool := va.toNat % w.bytes == 0

/-- The eight memory-mapped registers (10_state.md R45). -/
inductive Mmr where
  | pteh
  | ptel
  | ttb
  | tea
  | mmucr
  | traevt
  | expevt
  | intevt
  deriving DecidableEq, Repr

/-- The register at an offset from 1F00_0000 or FF00_0000 (10_state.md R45). -/
def mmrAtOffset (off : Nat) : Option Mmr :=
  match off with
  | 0x00 => some .pteh
  | 0x04 => some .ptel
  | 0x08 => some .ttb
  | 0x0C => some .tea
  | 0x10 => some .mmucr
  | 0x20 => some .traevt
  | 0x24 => some .expevt
  | 0x28 => some .intevt
  | _ => none

/-- The register whose four bytes hold physical address `pa`, through either alias (10_state.md R45). -/
def mmrAt (pa : Nat) : Option Mmr :=
  if pa / 0x1000000 = 0x1F ∨ pa / 0x1000000 = 0xFF then mmrAtOffset (pa % 0x1000000 / 4 * 4) else none

/-- What stands at a physical address (20_memory.md R92). -/
def regionAt : List Region → Nat → Option RegionKind
  | [], _ => none
  | r :: rs, pa => if r.lo ≤ pa ∧ pa ≤ r.hi then some r.kind else regionAt rs pa

/-- MMUCR.AT: translation is on (20_memory.md R100). -/
def State.translating (s : State) : Bool := s.mmucr.getLsbD 0

/-- The ranges of virtual addresses that are translated when AT = 1: 0 to 3 and 6 (20_memory.md R71). -/
def translatedRange (va : Word) : Bool := (va.toNat / 0x20000000 < 4 : Bool) || va.toNat / 0x20000000 == 6

/-- The physical address of an access that is not translated: the low 29 bits (20_memory.md R74). -/
def untranslated (va : Word) : Word := va &&& 0x1FFFFFFF

/-- What a walk of the page table gives (20_memory.md R105). -/
inductive Walk where
  /-- A directory or table entry is not valid. -/
  | miss
  /-- The entry of the page. -/
  | found (pte : Word)
  /-- The table has a shape the spec does not define. -/
  | undefined (r : Refusal)
  deriving DecidableEq, Repr

/-- One entry of the directory or of a table, read at a physical address (20_memory.md R103 to R105). -/
def tableEntry (s : State) (pa : Word) : Walk :=
  match regionAt s.cfg.regions pa.toNat with
  | some .memory =>
    if (loadBytes s.cfg.endian s.mem pa.toNat .long).getLsbD 8 then
      if (loadBytes s.cfg.endian s.mem pa.toNat .long).getLsbD 4
          && !(loadBytes s.cfg.endian s.mem pa.toNat .long).getLsbD 7 then
        .found (loadBytes s.cfg.endian s.mem pa.toNat .long)
      else .undefined .pageSizeReserved
    else .miss
  | _ => .undefined .pageTableOutsideMemory

/-- The physical address of the directory entry for `va` (20_memory.md R101, R105). -/
def directoryEntryAddress (s : State) (va : Word) : Word := (s.ttb &&& 0xFFFFF000) + 4 * (va >>> 22)

/-- The physical address of the table entry for `va` (20_memory.md R105). -/
def tableEntryAddress (pde va : Word) : Word := (pde &&& 0xFFFFF000) + 4 * ((va >>> 12) &&& 0x3FF)

/-- The two-level walk for `va` (20_memory.md R105). -/
def walk (s : State) (va : Word) : Walk :=
  match tableEntry s (directoryEntryAddress s va) with
  | .found pde => tableEntry s (tableEntryAddress pde va)
  | other => other

/-- The permission checks on a valid entry (20_memory.md R107): user access needs PR.U, a store needs PR.W, and a
store allowed so far needs D. -/
def pageFault (k : AccessKind) (md : Bool) (va pte : Word) : Option Exc :=
  if !md && !pte.getLsbD 6 then some (k.protection va)
  else match k with
    | .read => none
    | .write =>
      if !pte.getLsbD 5 then some (.writeProt va)
      else if !pte.getLsbD 2 then some (.firstWrite va)
      else none

/-- The physical address in the page of `pte` (20_memory.md R105). -/
def pageAddress (pte va : Word) : Word := (pte &&& 0xFFFFF000) ||| (va &&& 0xFFF)

/-- Steps 1 to 3 of an access (20_memory.md R85): alignment, privilege, translation. A translated access may miss the
TLB whatever the table holds (R106(b)). -/
def translate (k : AccessKind) (md : Bool) (w : Width) (va : Word) (s : State) : Access Word :=
  if s.cfg.addr32 then .refused .addressing32
  else if !aligned w va then .exc (k.addressError va) s
  else if !md && va.msb then .exc (k.addressError va) s
  else if s.translating && translatedRange va then
    if Config.freeTlbMiss s.free then .exc (k.miss va) s.drawn
    else match walk s va with
      | .miss => .exc (k.miss va) s.drawn
      | .undefined r => .refused r
      | .found pte =>
        match pageFault k md va pte with
        | some e => .exc e s.drawn
        | none => .ok (pageAddress pte va) s.drawn
  else .ok (untranslated va) s

/-- The physical address of an access the mode allows there: the memory-mapped registers are supervisor-only at every
address that leads to them, and user mode meets the address error (60_exceptions.md R625(b), 10_state.md R45). DEDUCED
where the address lies below 8000_0000: the spec names no exception for it. -/
def locate (k : AccessKind) (md : Bool) (w : Width) (va : Word) (s : State) : Access Word :=
  (translate k md w va s).bind fun pa s =>
    if !md && (mmrAt pa.toNat).isSome then .exc (k.addressError va) s else .ok pa s

/-- What an access reaches (20_memory.md R85 step 4). -/
inductive Place where
  | memory (pa : Nat)
  | device (pa : Nat)
  | register (r : Mmr)
  deriving DecidableEq, Repr

/-- A virtual address of range 7, which is reserved but for registers and devices (20_memory.md R73). -/
def reservedRange (va : Word) : Bool := 0xE0000000 ≤ va.toNat

/-- What stands at the physical address of an access: a register of either window, a device, or memory, which range 7
does not show (20_memory.md R73, R74, R85 step 4, R92; 10_state.md R45). -/
def placeOf (w : Width) (va pa : Word) (s : State) : Access Place :=
  match mmrAt pa.toNat with
  | some r => if w = .long then .ok (.register r) s else .refused (.registerAccessWidth pa.toNat)
  | none =>
    match regionAt s.cfg.regions pa.toNat with
    | some .device => .ok (.device pa.toNat) s
    | some .registers => .refused (.reservedRegisterSpace pa.toNat)
    | some .memory => if reservedRange va then .refused (.reservedAddress va) else .ok (.memory pa.toNat) s
    | none => if reservedRange va then .refused (.reservedAddress va) else .fault (.unmappedAddress pa.toNat)

/-- An access up to what it reaches (20_memory.md R85). -/
def resolve (k : AccessKind) (md : Bool) (w : Width) (va : Word) (s : State) : Access Place :=
  (locate k md w va s).bind fun pa s => placeOf w va pa s

/-- The value of a memory-mapped register (10_state.md R45). -/
def State.mmr (s : State) (r : Mmr) : Word :=
  match r with
  | .pteh => s.pteh
  | .ptel => s.ptel
  | .ttb => s.ttb
  | .tea => s.tea
  | .mmucr => s.mmucr
  | .traevt => s.traevt
  | .expevt => s.expevt
  | .intevt => s.intevt

/-- What is stored of a value written to a register: the fields the register has (10_state.md R45); bit 2 of MMUCR
reads back as the free value when it was set (20_memory.md R100, U11). -/
def mmrStored (r : Mmr) (v : Word) (n : Nat) : Word :=
  match r with
  | .traevt => v &&& 0x3FC
  | .expevt => v &&& 0xFFF
  | .intevt => v &&& 0xFFF
  | .mmucr => if v.getLsbD 2 then setBit v 2 (Config.freeTlbInvalidate n) else v
  | _ => v

/-- The bits of MMUCR that exist: AT, TI, SV (20_memory.md R100). -/
def mmucrMask : Word := 0x105

/-- A register takes the value stored (10_state.md R45); each write of MMUCR draws one free value. -/
def State.setMmr (s : State) (r : Mmr) (v : Word) : State :=
  { s with
    pteh := if r = .pteh then mmrStored r v s.free else s.pteh
    ptel := if r = .ptel then mmrStored r v s.free else s.ptel
    ttb := if r = .ttb then mmrStored r v s.free else s.ttb
    tea := if r = .tea then mmrStored r v s.free else s.tea
    mmucr := if r = .mmucr then mmrStored r v s.free else s.mmucr
    traevt := if r = .traevt then mmrStored r v s.free else s.traevt
    expevt := if r = .expevt then mmrStored r v s.free else s.expevt
    intevt := if r = .intevt then mmrStored r v s.free else s.intevt
    free := if r = .mmucr then s.free + 1 else s.free }

/-- The low `8n` bits of a value. -/
def Width.trunc (w : Width) (v : Word) : Word :=
  match w with
  | .byte => (v.extractLsb' 0 8).setWidth 32
  | .half => (v.extractLsb' 0 16).setWidth 32
  | .long => v

/-- A device answers a load with any value, and the access is recorded (20_memory.md R90, U30). -/
def State.deviceRead (s : State) (pa : Nat) (w : Width) : State :=
  { s with
    free := s.free + 1
    devLog := { write := false, pa := pa, width := w, value := w.trunc (Config.freeDevice s.free) } :: s.devLog }

/-- A device accepts a store, and the access is recorded (20_memory.md R90). -/
def State.deviceWrite (s : State) (pa : Nat) (w : Width) (v : Word) : State :=
  { s with devLog := { write := true, pa := pa, width := w, value := w.trunc v } :: s.devLog }

/-- A store to memory (20_memory.md R81), with the bytes it replaces remembered for fetches (R113). -/
def State.memoryWrite (s : State) (pa : Nat) (w : Width) (v : Word) : State :=
  { s with
    mem := memSetList s.mem pa (bytesOf s.cfg.endian w v)
    stale := noteStores s.mem s.stale pa (bytesOf s.cfg.endian w v) }

/-- Read what an access reaches, zero-extended (20_memory.md R85 step 4). -/
def readPlace (w : Width) (p : Place) (s : State) : Access Word :=
  match p with
  | .memory pa => .ok (loadBytes s.cfg.endian s.mem pa w) s
  | .device pa => .ok (w.trunc (Config.freeDevice s.free)) (s.deviceRead pa w)
  | .register r => .ok (s.mmr r) s

/-- Write what an access reaches (20_memory.md R85 step 4, R100, R106). -/
def writePlace (w : Width) (v : Word) (p : Place) (s : State) : Access Unit :=
  match p with
  | .memory pa => .ok () (s.memoryWrite pa w v)
  | .device pa => .ok () (s.deviceWrite pa w v)
  | .register r =>
    if r = .mmucr ∧ v &&& ~~~mmucrMask ≠ 0 then .refused .mmucrReservedBits
    else if r = .mmucr ∧ v.getLsbD 0 = true ∧ s.cfg.hasMmu = false then .refused .mmuAbsent
    else .ok () (s.setMmr r v)

/-- `MemRead(va, n)`, zero-extended (20_memory.md R85). -/
def memRead (w : Width) (va : Word) (s : State) : Access Word :=
  (resolve .read s.md w va s).bind fun p s => readPlace w p s

/-- `MemWrite(va, n, v)` (20_memory.md R85). -/
def memWrite (w : Width) (va v : Word) (s : State) : Access Unit :=
  (resolve .write s.md w va s).bind fun p s => writePlace w v p s

/-- The byte a fetch sees: the one in memory, or, where stores have replaced bytes there since the last ICBI, any of
those and the one in memory (20_memory.md R113, U28). -/
def fetchByte (s : State) (a : Nat) : Byte :=
  match staleAt a s.stale with
  | [] => memGet s.mem a
  | olds => (memGet s.mem a :: olds).getD (Config.freeFetch s.free % (olds.length + 1)) (memGet s.mem a)

/-- `Fetch(va)` with the given MD: a 2-byte read (20_memory.md R87); each byte of memory is drawn apart. -/
def fetch (md : Bool) (va : Word) (s : State) : Access Half :=
  (resolve .read md .half va s).bind fun p s =>
    match p with
    | .memory pa => .ok (half2 s.cfg.endian (fetchByte s pa) (fetchByte s.drawn (pa + 1))) s.drawn.drawn
    | .device pa => .ok ((Config.freeDevice s.free).extractLsb' 0 16) (s.deviceRead pa .half)
    | .register _ => .ok 0 s

/-- The physical address an ICBI reaches when it raises nothing: where the table translates it, or untranslated
(44_system.md R460). -/
def probe (va : Word) (s : State) : Option Word :=
  if s.translating && translatedRange va then
    match walk s va with
    | .found pte => some (pageAddress pte va)
    | _ => none
  else some (untranslated va)

/-- The 16-bit word that holds physical address `pa` is fetched fresh from now on (20_memory.md R113). -/
def State.invalidate (s : State) (pa : Word) : State :=
  { s with stale := dropStale (pa.toNat / 2 * 2) s.stale }

end Sys2Proof.Machine
end

