-- ==== Sys2Proof/Machine/Operands.lean ====
section
/-! DEFINITION. The operand forms: extensions (00_scope.md R10, R11), effective addresses (40_data_transfer.md R200 to
R204), branch targets (43_branch.md R402), and the shapes of loads and stores that several instructions share. -/

namespace Sys2Proof.Machine

/-! ### Extensions -/

/-- `sext_N(v)` (00_scope.md R11). -/
def sext {n : Nat} (v : BitVec n) : Word := v.signExtend 32

/-- `zext_N(v)` (00_scope.md R11). -/
def zext {n : Nat} (v : BitVec n) : Word := v.setWidth 32

/-- An 8-bit immediate extended with ones: the `#-imm8` forms (30_encoding.md R133). -/
def onesExt (v : BitVec 8) : Word := 0xFFFFFF00 ||| v.setWidth 32

/-- A bit as a 32-bit value. -/
def bit (b : Bool) : Word := if b then 1 else 0

/-- The low 8 or 16 bits sign-extended; a long is taken whole (40_data_transfer.md R202(b)). -/
def Width.signed (w : Width) (v : Word) : Word :=
  match w with
  | .byte => sext (v.extractLsb' 0 8)
  | .half => sext (v.extractLsb' 0 16)
  | .long => v

/-- The size of an access as an address step (40_data_transfer.md R200). -/
def Width.size (w : Width) : Word :=
  match w with
  | .byte => 1
  | .half => 2
  | .long => 4

/-! ### Effective addresses -/

/-- A base and a displacement scaled by the access size (40_data_transfer.md R200). -/
def eaDisp (base disp : Word) (w : Width) : Word := base + disp * w.size

/-- The base of a PC-relative operation of 16-bit form (40_data_transfer.md R204). -/
def pcBase (s : State) : Word := s.pc + 4

/-- The base of a PC-relative long operation: its low two bits cleared (40_data_transfer.md R204). -/
def pcBaseAligned (s : State) : Word := (s.pc + 4) &&& 0xFFFFFFFC

/-- `@(PC, R0)` of the byte and word forms (40_data_transfer.md R204). -/
def eaPcR0 (s : State) : Word := pcBase s + s.reg 0

/-- `@(PC, R0)` of the long and floating-point forms, by PCREL_R0_ALIGN (40_data_transfer.md R204). -/
def eaPcR0Long (s : State) : Word :=
  (if s.cfg.pcrelR0Align then pcBaseAligned s else pcBase s) + s.reg 0

/-- `index_ea` for an index register other than R15: R0 is added unscaled, any other is scaled with the displacement
(40_data_transfer.md R203). -/
def indexEa (s : State) (base : Word) (ro : Reg) (disp scale : Word) : Word :=
  if ro = 0 then base + (s.reg 0 + disp) else base + (s.reg ro + disp) * scale

/-- An index register of R15 is reserved (40_data_transfer.md R203, 90_conflicts.md C10). -/
def indexed (ro : Reg) (k : Res) : Res :=
  if ro = 15 then .refused .reservedIndexRegister else k

/-! ### Branch targets (43_branch.md R402) -/

/-- The target of a 16-bit form: its label is scaled by 2 and counts from `pc + 4`. -/
def target16 {n : Nat} (s : State) (label : BitVec n) : Word := s.pc + 4 + sext label * 2

/-- The target of a 32-bit form: its label is scaled by 2 and counts from `pc + 6`. -/
def target32 (s : State) (label : BitVec 16) : Word := s.pc + 6 + sext label * 2

/-! ### Shapes of loads -/

/-- A 16-bit load into `Rn`, sign-extended (40_data_transfer.md R202(b)). -/
def load16 (w : Width) (ea : Word) (rn : Reg) (s : State) : Res :=
  (memRead w ea s).andThen fun v s => done16 (s.setReg rn (w.signed v))

/-- A 32-bit form of the same. -/
def load32 (w : Width) (ea : Word) (rn : Reg) (s : State) : Res :=
  (memRead w ea s).andThen fun v s => done32 (s.setReg rn (w.signed v))

/-- A load into `Rn`, zero-extended, of 32-bit form (40_data_transfer.md R202(b)). -/
def loadZero32 (w : Width) (ea : Word) (rn : Reg) (s : State) : Res :=
  (memRead w ea s).andThen fun v s => done32 (s.setReg rn v)

/-- `@Rm+` into `Rn`: when m = n the loaded value stays (40_data_transfer.md R201(b)). -/
def loadPostInc (w : Width) (rm rn : Reg) (s : State) : Res :=
  (memRead w (s.reg rm) s).andThen fun v s =>
    done16 ((s.setReg rm (s.reg rm + w.size)).setReg rn (w.signed v))

/-- `@-Rm` into `R0`: when m = 0 the loaded value stays (40_data_transfer.md R201(d)). -/
def loadPreDec (w : Width) (rm : Reg) (s : State) : Res :=
  (memRead w (s.reg rm - w.size) s).andThen fun v s =>
    done16 ((s.setReg rm (s.reg rm - w.size)).setReg 0 (w.signed v))

/-! ### Shapes of stores -/

/-- A store of 16-bit form (40_data_transfer.md R202(c)). -/
def store16 (w : Width) (ea v : Word) (s : State) : Res :=
  (memWrite w ea v s).andThen fun _ s => done16 s

/-- A store of 32-bit form. -/
def store32 (w : Width) (ea v : Word) (s : State) : Res :=
  (memWrite w ea v s).andThen fun _ s => done32 s

/-- `@-Rn`: the store is at the decremented address, which `Rn` then holds; the value is read before
(40_data_transfer.md R201(a)). -/
def storePreDec (w : Width) (v : Word) (rn : Reg) (s : State) : Res :=
  (memWrite w (s.reg rn - w.size) v s).andThen fun _ s => done16 (s.setReg rn (s.reg rn - w.size))

/-- `R0` to `@Rn+` (40_data_transfer.md R201(c)). -/
def storePostInc (w : Width) (rn : Reg) (s : State) : Res :=
  (memWrite w (s.reg rn) (s.reg 0) s).andThen fun _ s => done16 (s.setReg rn (s.reg rn + w.size))

/-! ### Shapes of register instructions -/

/-- A 16-bit form that writes one general register. -/
def toReg16 (rn : Reg) (v : Word) (s : State) : Res := done16 (s.setReg rn v)

/-- A 32-bit form that writes one general register; slot-illegal (43_branch.md R401). -/
def toReg32 (rn : Reg) (v : Word) (s : State) : Res := notInSlot s (done32 (s.setReg rn v))

/-- A 16-bit form that writes T only. -/
def toT16 (b : Bool) (s : State) : Res := done16 (s.setT b)

/-- A 32-bit form that writes T only; slot-illegal (43_branch.md R401). -/
def toT32 (b : Bool) (s : State) : Res := notInSlot s (done32 (s.setT b))

/-- A 16-bit form that writes one general register and T. -/
def toRegT16 (rn : Reg) (v : Word) (b : Bool) (s : State) : Res := done16 ((s.setReg rn v).setT b)

end Sys2Proof.Machine
end

