-- ==== Sys2Proof/Machine/Flags.lean ====
section
/-! DEFINITION. The computations that decide T, the divide step, and the barrel shifts (41_arithmetic.md,
42_logic_shift.md). Sums and products are exact integers, narrowed at the end. -/

namespace Sys2Proof.Machine

/-- The carry out of `a + b + c` (41_arithmetic.md R303). -/
def carryOut (a b : Word) (c : Bool) : Bool := decide (2 ^ 32 ≤ a.toNat + b.toNat + c.toNat)

/-- The borrow out of `a - b - c` (41_arithmetic.md R342). -/
def borrowOut (a b : Word) (c : Bool) : Bool := decide (a.toNat < b.toNat + c.toNat)

/-- An exact value is outside the signed 32-bit range (41_arithmetic.md R304). -/
def outOfSigned (x : Int) : Bool := decide (x < -2147483648) || decide (2147483647 < x)

/-- Some byte of `a` equals the corresponding byte of `b` (41_arithmetic.md R313). -/
def anyByteEqual (a b : Word) : Bool :=
  (a ^^^ b).extractLsb' 24 8 == 0 || (a ^^^ b).extractLsb' 16 8 == 0
    || (a ^^^ b).extractLsb' 8 8 == 0 || (a ^^^ b).extractLsb' 0 8 == 0

/-- The 64-bit signed product (41_arithmetic.md R318). -/
def signedProduct (a b : Word) : DWord := BitVec.ofInt 64 (a.toInt * b.toInt)

/-- The 64-bit unsigned product (41_arithmetic.md R319). -/
def unsignedProduct (a b : Word) : DWord := BitVec.ofNat 64 (a.toNat * b.toNat)

/-- `dn1` of the divide step: Rn shifted left with T entering (41_arithmetic.md R317). -/
def divShifted (rn : Word) (t : Bool) : Word := (rn <<< 1) ||| bit t

/-- The value a divide step leaves in Rn: `dn1` minus Rm when Q = M, else plus (41_arithmetic.md R317). -/
def divStepValue (rn rm : Word) (q m t : Bool) : Word :=
  if q = m then divShifted rn t - rm else divShifted rn t + rm

/-- `c0` of the divide step: the borrow of the subtraction or the carry of the addition (41_arithmetic.md R317). -/
def divStepCarry (rn rm : Word) (q m t : Bool) : Bool :=
  if q = m then borrowOut (divShifted rn t) rm false else carryOut (divShifted rn t) rm false

/-- The new Q of a divide step (41_arithmetic.md R317). -/
def divStepQ (rn rm : Word) (q m t : Bool) : Bool := (rn.msb ^^ m) ^^ divStepCarry rn rm q m t

/-- `shld(v, s)` (42_logic_shift.md R362). -/
def shld (v s : Word) : Word :=
  if s.msb = false then v <<< (s.toNat % 32)
  else if s.toNat % 32 = 0 then 0
  else v >>> (32 - s.toNat % 32)

/-- `shad(v, s)` (42_logic_shift.md R362). -/
def shad (v s : Word) : Word :=
  if s.msb = false then v <<< (s.toNat % 32)
  else if s.toNat % 32 = 0 then if v.msb then 0xFFFFFFFF else 0
  else v.sshiftRight (32 - s.toNat % 32)

end Sys2Proof.Machine
end

