-- ==== Sys2Proof/Machine/Arithmetic.lean ====
section
/-! DEFINITION. The arithmetic and compare instructions of 41_arithmetic.md. None accesses memory; of SR each writes
only the fields its rule names. -/

namespace Sys2Proof.Machine

/-- `MACH <- p[63:32]; MACL <- p[31:0]` (41_arithmetic.md R318, R319). -/
def setMac (p : DWord) (s : State) : State := { s with mach := hiWord p, macl := loWord p }

/-- DIV1: one step of the division; M is read, not written (41_arithmetic.md R317). -/
def divideStep (rm rn : Reg) (s : State) : Res :=
  let q2 := divStepQ (s.reg rn) (s.reg rm) s.q s.m s.t
  done16 ((s.setReg rn (divStepValue (s.reg rn) (s.reg rm) s.q s.m s.t)).setQMT q2 s.m (q2 == s.m))

/-! ### The instructions -/

/-- `MUL.L Rm, Rn`: 41_arithmetic.md R331. -/
def execMulL (rm : Reg) (rn : Reg) (s : State) : Res := done16 { s with macl := s.reg rn * s.reg rm }

/-- `DIV0U`: 41_arithmetic.md R316. -/
def execDiv0u (s : State) : Res := done16 (s.setQMT false false false)

/-- `DIV0S Rm, Rn`: 41_arithmetic.md R315. -/
def execDiv0s (rm : Reg) (rn : Reg) (s : State) : Res :=
  done16 (s.setQMT (s.reg rn).msb (s.reg rm).msb ((s.reg rn).msb ^^ (s.reg rm).msb))

/-- `CMPSTR Rm, Rn`: 41_arithmetic.md R313. -/
def execCmpStr (rm : Reg) (rn : Reg) (s : State) : Res := toT16 (anyByteEqual (s.reg rn) (s.reg rm)) s

/-- `MULU.W Rm, Rn`: 41_arithmetic.md R333. -/
def execMuluW (rm : Reg) (rn : Reg) (s : State) : Res :=
  done16 { s with macl := zext ((s.reg rn).extractLsb' 0 16) * zext ((s.reg rm).extractLsb' 0 16) }

/-- `MULS.W Rm, Rn`: 41_arithmetic.md R332. -/
def execMulsW (rm : Reg) (rn : Reg) (s : State) : Res :=
  done16 { s with macl := sext ((s.reg rn).extractLsb' 0 16) * sext ((s.reg rm).extractLsb' 0 16) }

/-- `CMPEQ Rm, Rn`: 41_arithmetic.md R306. -/
def execCmpEq (rm : Reg) (rn : Reg) (s : State) : Res := toT16 (s.reg rn == s.reg rm) s

/-- `CMPHS Rm, Rn`: 41_arithmetic.md R310. -/
def execCmpHs (rm : Reg) (rn : Reg) (s : State) : Res := toT16 ((s.reg rm).ule (s.reg rn)) s

/-- `CMPGE Rm, Rn`: 41_arithmetic.md R307. -/
def execCmpGe (rm : Reg) (rn : Reg) (s : State) : Res := toT16 ((s.reg rm).sle (s.reg rn)) s

/-- `DIV1 Rm, Rn`: 41_arithmetic.md R317. -/
def execDiv1 (rm : Reg) (rn : Reg) (s : State) : Res := divideStep rm rn s

/-- `DMULU.L Rm, Rn`: 41_arithmetic.md R319. -/
def execDmuluL (rm : Reg) (rn : Reg) (s : State) : Res := done16 (setMac (unsignedProduct (s.reg rn) (s.reg rm)) s)

/-- `CMPHI Rm, Rn`: 41_arithmetic.md R309. -/
def execCmpHi (rm : Reg) (rn : Reg) (s : State) : Res := toT16 ((s.reg rm).ult (s.reg rn)) s

/-- `CMPGT Rm, Rn`: 41_arithmetic.md R308. -/
def execCmpGt (rm : Reg) (rn : Reg) (s : State) : Res := toT16 ((s.reg rm).slt (s.reg rn)) s

/-- `SUB Rm, Rn`: 41_arithmetic.md R340. -/
def execSub (rm : Reg) (rn : Reg) (s : State) : Res := toReg16 rn (s.reg rn - s.reg rm) s

/-- `SUBC Rm, Rn`: 41_arithmetic.md R342. -/
def execSubc (rm : Reg) (rn : Reg) (s : State) : Res :=
  toRegT16 rn (s.reg rn - s.reg rm - bit s.t) (borrowOut (s.reg rn) (s.reg rm) s.t) s

/-- `SUBV Rm, Rn`: 41_arithmetic.md R343. -/
def execSubv (rm : Reg) (rn : Reg) (s : State) : Res :=
  toRegT16 rn (s.reg rn - s.reg rm) (outOfSigned ((s.reg rn).toInt - (s.reg rm).toInt)) s

/-- `ADD Rm, Rn`: 41_arithmetic.md R300. -/
def execAdd (rm : Reg) (rn : Reg) (s : State) : Res := toReg16 rn (s.reg rn + s.reg rm) s

/-- `DMULS.L Rm, Rn`: 41_arithmetic.md R318. -/
def execDmulsL (rm : Reg) (rn : Reg) (s : State) : Res := done16 (setMac (signedProduct (s.reg rn) (s.reg rm)) s)

/-- `ADDC Rm, Rn`: 41_arithmetic.md R303. -/
def execAddc (rm : Reg) (rn : Reg) (s : State) : Res :=
  toRegT16 rn (s.reg rn + s.reg rm + bit s.t) (carryOut (s.reg rn) (s.reg rm) s.t) s

/-- `ADDV Rm, Rn`: 41_arithmetic.md R304. -/
def execAddv (rm : Reg) (rn : Reg) (s : State) : Res :=
  toRegT16 rn (s.reg rn + s.reg rm) (outOfSigned ((s.reg rn).toInt + (s.reg rm).toInt)) s

/-- `DT Rn`: 41_arithmetic.md R320. -/
def execDt (rn : Reg) (s : State) : Res := toRegT16 rn (s.reg rn - 1) (s.reg rn - 1 == 0) s

/-- `CMPPZ Rn`: 41_arithmetic.md R312. -/
def execCmpPz (rn : Reg) (s : State) : Res := toT16 ((0 : Word).sle (s.reg rn)) s

/-- `CMPPL Rn`: 41_arithmetic.md R311. -/
def execCmpPl (rn : Reg) (s : State) : Res := toT16 ((0 : Word).slt (s.reg rn)) s

/-- `NEGC Rm, Rn`: 41_arithmetic.md R336. -/
def execNegc (rm : Reg) (rn : Reg) (s : State) : Res :=
  toRegT16 rn (0 - s.reg rm - bit s.t) (borrowOut 0 (s.reg rm) s.t) s

/-- `NEG Rm, Rn`: 41_arithmetic.md R335. -/
def execNeg (rm : Reg) (rn : Reg) (s : State) : Res := toReg16 rn (0 - s.reg rm) s

/-- `ADD #imm8s, Rn`: 41_arithmetic.md R301. -/
def execAddImm8 (imm : BitVec 8) (rn : Reg) (s : State) : Res := toReg16 rn (s.reg rn + sext imm) s

/-- `CMPEQ #imm8s, R0`: 41_arithmetic.md R306. -/
def execCmpEqImm8 (imm : BitVec 8) (s : State) : Res := toT16 (s.reg 0 == sext imm) s

/-- `MUL Rm, #imm8, Rn`: 41_arithmetic.md R330. -/
def execMul3Imm8 (rm : Reg) (imm : BitVec 8) (rn : Reg) (s : State) : Res := toReg32 rn (s.reg rm * zext imm) s

/-- `MUL Rm, #-imm8, Rn`: 41_arithmetic.md R330. -/
def execMul3NegImm8 (rm : Reg) (imm : BitVec 8) (rn : Reg) (s : State) : Res := toReg32 rn (s.reg rm * onesExt imm) s

/-- `CMPEQ #imm12s, Rn`: 41_arithmetic.md R306. -/
def execCmpEqImm12 (imm : BitVec 12) (rn : Reg) (s : State) : Res := toT32 (s.reg rn == sext imm) s

/-- `CMPHS #imm12s, Rn`: 41_arithmetic.md R310. -/
def execCmpHsImm12 (imm : BitVec 12) (rn : Reg) (s : State) : Res := toT32 ((sext imm).ule (s.reg rn)) s

/-- `CMPGE #imm12s, Rn`: 41_arithmetic.md R307. -/
def execCmpGeImm12 (imm : BitVec 12) (rn : Reg) (s : State) : Res := toT32 ((sext imm).sle (s.reg rn)) s

/-- `CMPHI #imm12s, Rn`: 41_arithmetic.md R309. -/
def execCmpHiImm12 (imm : BitVec 12) (rn : Reg) (s : State) : Res := toT32 ((sext imm).ult (s.reg rn)) s

/-- `CMPGT #imm12s, Rn`: 41_arithmetic.md R308. -/
def execCmpGtImm12 (imm : BitVec 12) (rn : Reg) (s : State) : Res := toT32 ((sext imm).slt (s.reg rn)) s

/-- `SUB Rm, #imm8, Rn`: 41_arithmetic.md R341. -/
def execSub3Imm8 (rm : Reg) (imm : BitVec 8) (rn : Reg) (s : State) : Res := toReg32 rn (s.reg rm - zext imm) s

/-- `ADD Rm, #imm8, Rn`: 41_arithmetic.md R302. -/
def execAdd3Imm8 (rm : Reg) (imm : BitVec 8) (rn : Reg) (s : State) : Res := toReg32 rn (s.reg rm + zext imm) s

/-- `ADD Rs, Rt, Rn`: 41_arithmetic.md R302. -/
def execAdd3 (rs : Reg) (rt : Reg) (rn : Reg) (s : State) : Res := toReg32 rn (s.reg rs + s.reg rt) s

/-- `SUB Rs, Rt, Rn`: 41_arithmetic.md R341. -/
def execSub3 (rs : Reg) (rt : Reg) (rn : Reg) (s : State) : Res := toReg32 rn (s.reg rs - s.reg rt) s

/-- `MUL Rs, Rt, Rn`: 41_arithmetic.md R330. -/
def execMul3 (rs : Reg) (rt : Reg) (rn : Reg) (s : State) : Res := toReg32 rn (s.reg rs * s.reg rt) s

/-- `CSELT Rs, Rt, Rn`: 41_arithmetic.md R314. -/
def execCselt (rs : Reg) (rt : Reg) (rn : Reg) (s : State) : Res := toReg32 rn (if s.t then s.reg rs else s.reg rt) s

/-- `ADD #imm16s, Rn`: 41_arithmetic.md R301. -/
def execAddImm16 (imm : BitVec 16) (rn : Reg) (s : State) : Res := toReg32 rn (s.reg rn + sext imm) s

/-- `CMPEQ #imm16s, R0`: 41_arithmetic.md R306. -/
def execCmpEqImm16 (imm : BitVec 16) (s : State) : Res := toT32 (s.reg 0 == sext imm) s

end Sys2Proof.Machine
end

