-- ==== Sys2Proof/Machine/Branch.lean ====
section
/-! DEFINITION. The branches, calls and returns of 43_branch.md. Every one is slot-illegal (R401); one with a delay slot
reads its operands and writes PR before the slot instruction (R400(a)). -/

namespace Sys2Proof.Machine

/-- `PR <- v` (10_state.md R42). -/
def State.setPr (s : State) (v : Word) : State := { s with pr := v }

/-- A 16-bit conditional branch without delay slot (43_branch.md R403, R419). -/
def branchIf16 (taken : Bool) (target : Word) (s : State) : Res :=
  if taken then .next (s.jump target) else done16 s

/-- A 32-bit conditional branch without delay slot (43_branch.md R403, R419). -/
def branchIf32 (taken : Bool) (target : Word) (s : State) : Res :=
  if taken then .next (s.jump target) else done32 s

/-- A 16-bit conditional branch with delay slot: not taken, it still has one (43_branch.md R400(e), R404). -/
def delayIf16 (taken : Bool) (target : Word) (s : State) : Res :=
  .next (s.delay 2 (if taken then target else s.pc + 4))

/-- A 32-bit conditional branch with delay slot (43_branch.md R400(e), R404). -/
def delayIf32 (taken : Bool) (target : Word) (s : State) : Res :=
  .next (s.delay 4 (if taken then target else s.pc + 6))

/-! ### The instructions -/

/-- `BSRF Rm`: 43_branch.md R414. -/
def execBsrf (rm : Reg) (s : State) : Res := notInSlot s (.next ((s.setPr (s.pc + 4)).delay 2 (s.pc + 4 + s.reg rm)))

/-- `BRAF Rm`: 43_branch.md R408. -/
def execBraf (rm : Reg) (s : State) : Res := notInSlot s (.next (s.delay 2 (s.pc + 4 + s.reg rm)))

/-- `RTS`: 43_branch.md R417. -/
def execRts (s : State) : Res := notInSlot s (.next (s.delay 2 s.pr))

/-- `RTS/N`: 43_branch.md R418. -/
def execRtsN (s : State) : Res := notInSlot s (.next (s.jump s.pr))

/-- `JSR Rm`: 43_branch.md R415. -/
def execJsr (rm : Reg) (s : State) : Res := notInSlot s (.next ((s.setPr (s.pc + 4)).delay 2 (s.reg rm)))

/-- `JMP Rm`: 43_branch.md R410. -/
def execJmp (rm : Reg) (s : State) : Res := notInSlot s (.next (s.delay 2 (s.reg rm)))

/-- `JSR/N Rm`: 43_branch.md R416. -/
def execJsrN (rm : Reg) (s : State) : Res := notInSlot s (.next ((s.setPr (s.pc + 2)).jump (s.reg rm)))

/-- `BRA/N label8s`: 43_branch.md R406. -/
def execBraN8 (label : BitVec 8) (s : State) : Res := notInSlot s (.next (s.jump (target16 s label)))

/-- `BT label8s`: 43_branch.md R419. -/
def execBt8 (label : BitVec 8) (s : State) : Res := notInSlot s (branchIf16 s.t (target16 s label) s)

/-- `BF label8s`: 43_branch.md R403. -/
def execBf8 (label : BitVec 8) (s : State) : Res := notInSlot s (branchIf16 (!s.t) (target16 s label) s)

/-- `BT/S label8s`: 43_branch.md R420. -/
def execBtS8 (label : BitVec 8) (s : State) : Res := notInSlot s (delayIf16 s.t (target16 s label) s)

/-- `BF/S label8s`: 43_branch.md R404. -/
def execBfS8 (label : BitVec 8) (s : State) : Res := notInSlot s (delayIf16 (!s.t) (target16 s label) s)

/-- `BRA label12s`: 43_branch.md R405. -/
def execBra (label : BitVec 12) (s : State) : Res := notInSlot s (.next (s.delay 2 (target16 s label)))

/-- `BSR label12s`: 43_branch.md R412. -/
def execBsr (label : BitVec 12) (s : State) : Res :=
  notInSlot s (.next ((s.setPr (s.pc + 4)).delay 2 (target16 s label)))

/-- `BRA/N label16s`: 43_branch.md R406. -/
def execBraN16 (label : BitVec 16) (s : State) : Res := notInSlot s (.next (s.jump (target32 s label)))

/-- `BSR/N label16s`: 43_branch.md R413. -/
def execBsrN16 (label : BitVec 16) (s : State) : Res :=
  notInSlot s (.next ((s.setPr (s.pc + 4)).jump (target32 s label)))

/-- `BT label16s`: 43_branch.md R419. -/
def execBt16 (label : BitVec 16) (s : State) : Res := notInSlot s (branchIf32 s.t (target32 s label) s)

/-- `BF label16s`: 43_branch.md R403. -/
def execBf16 (label : BitVec 16) (s : State) : Res := notInSlot s (branchIf32 (!s.t) (target32 s label) s)

/-- `BT/S label16s`: 43_branch.md R420. -/
def execBtS16 (label : BitVec 16) (s : State) : Res := notInSlot s (delayIf32 s.t (target32 s label) s)

/-- `BF/S label16s`: 43_branch.md R404. -/
def execBfS16 (label : BitVec 16) (s : State) : Res := notInSlot s (delayIf32 (!s.t) (target32 s label) s)

end Sys2Proof.Machine
end

