-- ==== Sys2Proof/Machine/DataTransfer.lean ====
section
/-! DEFINITION. The data-transfer instructions of 40_data_transfer.md. A load or store that cannot be performed raises the
exception of its access and changes no register and no memory (R202(d)). -/

namespace Sys2Proof.Machine

/-- The two low bytes change places (40_data_transfer.md R256). -/
def swapBytes (v : Word) : Word := v.extractLsb' 16 16 ++ v.extractLsb' 0 8 ++ v.extractLsb' 8 8

/-- The two halves change places (40_data_transfer.md R257). -/
def swapWords (v : Word) : Word := v.extractLsb' 0 16 ++ v.extractLsb' 16 16

/-- The middle 32 bits of the 64-bit value `a ++ b` (40_data_transfer.md R258). -/
def middleWord (a b : Word) : Word := a.extractLsb' 0 16 ++ b.extractLsb' 16 16

/-- LEA with index register R0 or R15 is undefined (40_data_transfer.md R271, 90_conflicts.md C11). -/
def leaIndexed (ro : Reg) (k : Res) : Res :=
  if ro = 0 ∨ ro = 15 then .refused .undefinedLeaIndex else k

/-- The second half of CAS.L: the old value is in `Rn`, T says whether it equalled `Rm` (40_data_transfer.md R260). -/
def casResult (old : Word) (equal : Bool) (rn : Reg) (s : State) : Res := done16 ((s.setReg rn old).setT equal)

/-- CAS.L: the long at R0 is checked as a store, read, compared with `Rm`, and replaced by `Rn` when equal
(40_data_transfer.md R260). -/
def compareAndSwap (rm rn : Reg) (s : State) : Res :=
  (resolve .write s.md .long (s.reg 0) s).andThen fun p s =>
    (readPlace .long p s).andThen fun old s =>
      if old = s.reg rm then
        (writePlace .long (s.reg rn) p s).andThen fun _ s => casResult old true rn s
      else casResult old false rn s

/-- PREF: no effect, or, by a free choice, the exception a 1-byte load would raise (40_data_transfer.md R264, U15). -/
def prefetch (va : Word) (s : State) : Res :=
  if Config.freeCacheFault s.free then
    (locate .read s.md .byte va s.drawn).andThen fun _ s => done16 s
  else done16 s.drawn

/-! ### The instructions -/

/-- `PREF @Rn`: 40_data_transfer.md R264. -/
def execPref (rn : Reg) (s : State) : Res := prefetch (s.reg rn) s

/-- `MOVCA.L R0, @Rn`: 40_data_transfer.md R262. -/
def execMovcaL (rn : Reg) (s : State) : Res := store16 .long (s.reg rn) (s.reg 0) s

/-- `MOV.B Rm, @(R0, Rn)`: 40_data_transfer.md R220. -/
def execMovBStoreR0Idx (rm : Reg) (rn : Reg) (s : State) : Res := store16 .byte (s.reg 0 + s.reg rn) (s.reg rm) s

/-- `MOV.W Rm, @(R0, Rn)`: 40_data_transfer.md R221. -/
def execMovWStoreR0Idx (rm : Reg) (rn : Reg) (s : State) : Res := store16 .half (s.reg 0 + s.reg rn) (s.reg rm) s

/-- `MOV.L Rm, @(R0, Rn)`: 40_data_transfer.md R222. -/
def execMovLStoreR0Idx (rm : Reg) (rn : Reg) (s : State) : Res := store16 .long (s.reg 0 + s.reg rn) (s.reg rm) s

/-- `MOVT Rn`: 40_data_transfer.md R252. -/
def execMovt (rn : Reg) (s : State) : Res := toReg16 rn (bit s.t) s

/-- `MOVRT Rn`: 40_data_transfer.md R253. -/
def execMovrt (rn : Reg) (s : State) : Res := toReg16 rn (bit (!s.t)) s

/-- `MOV.B @(R0, Rm), Rn`: 40_data_transfer.md R223. -/
def execMovBLoadR0Idx (rm : Reg) (rn : Reg) (s : State) : Res := load16 .byte (s.reg 0 + s.reg rm) rn s

/-- `MOV.W @(R0, Rm), Rn`: 40_data_transfer.md R224. -/
def execMovWLoadR0Idx (rm : Reg) (rn : Reg) (s : State) : Res := load16 .half (s.reg 0 + s.reg rm) rn s

/-- `MOV.L @(R0, Rm), Rn`: 40_data_transfer.md R225. -/
def execMovLLoadR0Idx (rm : Reg) (rn : Reg) (s : State) : Res := load16 .long (s.reg 0 + s.reg rm) rn s

/-- `MOV.L Rm, @(Rn, disp4)`: 40_data_transfer.md R226. -/
def execMovLStoreDisp4 (rm : Reg) (rn : Reg) (disp : BitVec 4) (s : State) : Res :=
  store16 .long (eaDisp (s.reg rn) (zext disp) .long) (s.reg rm) s

/-- `MOV.B Rm, @Rn`: 40_data_transfer.md R214. -/
def execMovBStoreInd (rm : Reg) (rn : Reg) (s : State) : Res := store16 .byte (s.reg rn) (s.reg rm) s

/-- `MOV.W Rm, @Rn`: 40_data_transfer.md R215. -/
def execMovWStoreInd (rm : Reg) (rn : Reg) (s : State) : Res := store16 .half (s.reg rn) (s.reg rm) s

/-- `MOV.L Rm, @Rn`: 40_data_transfer.md R216. -/
def execMovLStoreInd (rm : Reg) (rn : Reg) (s : State) : Res := store16 .long (s.reg rn) (s.reg rm) s

/-- `CAS.L Rm, Rn, @R0`: 40_data_transfer.md R260. -/
def execCasL (rm : Reg) (rn : Reg) (s : State) : Res := compareAndSwap rm rn s

/-- `MOV.B Rm, @-Rn`: 40_data_transfer.md R217. -/
def execMovBStorePreDec (rm : Reg) (rn : Reg) (s : State) : Res := storePreDec .byte (s.reg rm) rn s

/-- `MOV.W Rm, @-Rn`: 40_data_transfer.md R218. -/
def execMovWStorePreDec (rm : Reg) (rn : Reg) (s : State) : Res := storePreDec .half (s.reg rm) rn s

/-- `MOV.L Rm, @-Rn`: 40_data_transfer.md R219. -/
def execMovLStorePreDec (rm : Reg) (rn : Reg) (s : State) : Res := storePreDec .long (s.reg rm) rn s

/-- `XTRCT Rm, Rn`: 40_data_transfer.md R258. -/
def execXtrct (rm : Reg) (rn : Reg) (s : State) : Res := toReg16 rn (middleWord (s.reg rm) (s.reg rn)) s

/-- `MOV.B Rm, @(PC, R0)`: 40_data_transfer.md R238. -/
def execMovBStorePcR0 (rm : Reg) (s : State) : Res := notInSlot s (store16 .byte (eaPcR0 s) (s.reg rm) s)

/-- `MOV.W Rm, @(PC, R0)`: 40_data_transfer.md R239. -/
def execMovWStorePcR0 (rm : Reg) (s : State) : Res := notInSlot s (store16 .half (eaPcR0 s) (s.reg rm) s)

/-- `MOV.L Rm, @(PC, R0)`: 40_data_transfer.md R240. -/
def execMovLStorePcR0 (rm : Reg) (s : State) : Res := notInSlot s (store16 .long (eaPcR0Long s) (s.reg rm) s)

/-- `MOV.B @(PC, R0), Rn`: 40_data_transfer.md R241. -/
def execMovBLoadPcR0 (rn : Reg) (s : State) : Res := notInSlot s (load16 .byte (eaPcR0 s) rn s)

/-- `MOV.W @(PC, R0), Rn`: 40_data_transfer.md R242. -/
def execMovWLoadPcR0 (rn : Reg) (s : State) : Res := notInSlot s (load16 .half (eaPcR0 s) rn s)

/-- `MOV.L @(PC, R0), Rn`: 40_data_transfer.md R243. -/
def execMovLLoadPcR0 (rn : Reg) (s : State) : Res := notInSlot s (load16 .long (eaPcR0Long s) rn s)

/-- `LEA.B @(PC, R0), Rn`: 40_data_transfer.md R270. -/
def execLeaBPcR0 (rn : Reg) (s : State) : Res := notInSlot s (toReg16 rn (eaPcR0 s) s)

/-- `MOV.B R0, @Rn+`: 40_data_transfer.md R244. -/
def execMovBStoreR0PostInc (rn : Reg) (s : State) : Res := storePostInc .byte rn s

/-- `MOV.W R0, @Rn+`: 40_data_transfer.md R245. -/
def execMovWStoreR0PostInc (rn : Reg) (s : State) : Res := storePostInc .half rn s

/-- `MOV.L R0, @Rn+`: 40_data_transfer.md R246. -/
def execMovLStoreR0PostInc (rn : Reg) (s : State) : Res := storePostInc .long rn s

/-- `MOV.B @-Rm, R0`: 40_data_transfer.md R247. -/
def execMovBLoadR0PreDec (rm : Reg) (s : State) : Res := loadPreDec .byte rm s

/-- `MOV.W @-Rm, R0`: 40_data_transfer.md R248. -/
def execMovWLoadR0PreDec (rm : Reg) (s : State) : Res := loadPreDec .half rm s

/-- `MOV.L @-Rm, R0`: 40_data_transfer.md R249. -/
def execMovLLoadR0PreDec (rm : Reg) (s : State) : Res := loadPreDec .long rm s

/-- `MOV.L @(Rm, disp4), Rn`: 40_data_transfer.md R227. -/
def execMovLLoadDisp4 (rm : Reg) (disp : BitVec 4) (rn : Reg) (s : State) : Res :=
  load16 .long (eaDisp (s.reg rm) (zext disp) .long) rn s

/-- `MOV.B @Rm, Rn`: 40_data_transfer.md R228. -/
def execMovBLoadInd (rm : Reg) (rn : Reg) (s : State) : Res := load16 .byte (s.reg rm) rn s

/-- `MOV.W @Rm, Rn`: 40_data_transfer.md R229. -/
def execMovWLoadInd (rm : Reg) (rn : Reg) (s : State) : Res := load16 .half (s.reg rm) rn s

/-- `MOV.L @Rm, Rn`: 40_data_transfer.md R230. -/
def execMovLLoadInd (rm : Reg) (rn : Reg) (s : State) : Res := load16 .long (s.reg rm) rn s

/-- `MOV Rm, Rn`: 40_data_transfer.md R210. -/
def execMov (rm : Reg) (rn : Reg) (s : State) : Res := toReg16 rn (s.reg rm) s

/-- `MOV.B @Rm+, Rn`: 40_data_transfer.md R231. -/
def execMovBLoadPostInc (rm : Reg) (rn : Reg) (s : State) : Res := loadPostInc .byte rm rn s

/-- `MOV.W @Rm+, Rn`: 40_data_transfer.md R232. -/
def execMovWLoadPostInc (rm : Reg) (rn : Reg) (s : State) : Res := loadPostInc .half rm rn s

/-- `MOV.L @Rm+, Rn`: 40_data_transfer.md R233. -/
def execMovLLoadPostInc (rm : Reg) (rn : Reg) (s : State) : Res := loadPostInc .long rm rn s

/-- `SWAP.B Rm, Rn`: 40_data_transfer.md R256. -/
def execSwapB (rm : Reg) (rn : Reg) (s : State) : Res := toReg16 rn (swapBytes (s.reg rm)) s

/-- `SWAP.W Rm, Rn`: 40_data_transfer.md R257. -/
def execSwapW (rm : Reg) (rn : Reg) (s : State) : Res := toReg16 rn (swapWords (s.reg rm)) s

/-- `EXTU.B Rm, Rn`: 40_data_transfer.md R207. -/
def execExtuB (rm : Reg) (rn : Reg) (s : State) : Res := toReg16 rn (zext ((s.reg rm).extractLsb' 0 8)) s

/-- `EXTU.W Rm, Rn`: 40_data_transfer.md R208. -/
def execExtuW (rm : Reg) (rn : Reg) (s : State) : Res := toReg16 rn (zext ((s.reg rm).extractLsb' 0 16)) s

/-- `EXTS.B Rm, Rn`: 40_data_transfer.md R205. -/
def execExtsB (rm : Reg) (rn : Reg) (s : State) : Res := toReg16 rn (sext ((s.reg rm).extractLsb' 0 8)) s

/-- `EXTS.W Rm, Rn`: 40_data_transfer.md R206. -/
def execExtsW (rm : Reg) (rn : Reg) (s : State) : Res := toReg16 rn (sext ((s.reg rm).extractLsb' 0 16)) s

/-- `MOV.B R0, @(Rn, disp4)`: 40_data_transfer.md R234. -/
def execMovBStoreR0Disp4 (rn : Reg) (disp : BitVec 4) (s : State) : Res :=
  store16 .byte (eaDisp (s.reg rn) (zext disp) .byte) (s.reg 0) s

/-- `MOV.W R0, @(Rn, disp4)`: 40_data_transfer.md R235. -/
def execMovWStoreR0Disp4 (rn : Reg) (disp : BitVec 4) (s : State) : Res :=
  store16 .half (eaDisp (s.reg rn) (zext disp) .half) (s.reg 0) s

/-- `MOV.B @(Rm, disp4), R0`: 40_data_transfer.md R236. -/
def execMovBLoadR0Disp4 (rm : Reg) (disp : BitVec 4) (s : State) : Res :=
  load16 .byte (eaDisp (s.reg rm) (zext disp) .byte) 0 s

/-- `MOV.W @(Rm, disp4), R0`: 40_data_transfer.md R237. -/
def execMovWLoadR0Disp4 (rm : Reg) (disp : BitVec 4) (s : State) : Res :=
  load16 .half (eaDisp (s.reg rm) (zext disp) .half) 0 s

/-- `MOVI24 #imm24, R0`: 40_data_transfer.md R213. -/
def execMovi24 (imm : BitVec 24) (s : State) : Res := toReg32 0 (sext imm) s

/-- `MOV.W @(PC, disp8), Rn`: 40_data_transfer.md R250. -/
def execMovWLoadPcDisp (disp : BitVec 8) (rn : Reg) (s : State) : Res :=
  notInSlot s (load16 .half (eaDisp (pcBase s) (zext disp) .half) rn s)

/-- `MOV.B R0, @(GBR, disp8)`: 40_data_transfer.md R274. -/
def execMovBStoreGbr8 (disp : BitVec 8) (s : State) : Res :=
  store16 .byte (eaDisp s.gbr (zext disp) .byte) (s.reg 0) s

/-- `MOV.W R0, @(GBR, disp8)`: 40_data_transfer.md R274. -/
def execMovWStoreGbr8 (disp : BitVec 8) (s : State) : Res :=
  store16 .half (eaDisp s.gbr (zext disp) .half) (s.reg 0) s

/-- `MOV.L R0, @(GBR, disp8)`: 40_data_transfer.md R274. -/
def execMovLStoreGbr8 (disp : BitVec 8) (s : State) : Res :=
  store16 .long (eaDisp s.gbr (zext disp) .long) (s.reg 0) s

/-- `MOV.B @(GBR, disp8), R0`: 40_data_transfer.md R275. -/
def execMovBLoadGbr8 (disp : BitVec 8) (s : State) : Res := load16 .byte (eaDisp s.gbr (zext disp) .byte) 0 s

/-- `MOV.W @(GBR, disp8), R0`: 40_data_transfer.md R275. -/
def execMovWLoadGbr8 (disp : BitVec 8) (s : State) : Res := load16 .half (eaDisp s.gbr (zext disp) .half) 0 s

/-- `MOV.L @(GBR, disp8), R0`: 40_data_transfer.md R275. -/
def execMovLLoadGbr8 (disp : BitVec 8) (s : State) : Res := load16 .long (eaDisp s.gbr (zext disp) .long) 0 s

/-- `MOVA @(PC, disp8), R0`: 40_data_transfer.md R254. -/
def execMova (disp : BitVec 8) (s : State) : Res :=
  notInSlot s (toReg16 0 (eaDisp (pcBaseAligned s) (zext disp) .long) s)

/-- `MOV.L @(PC, disp8), Rn`: 40_data_transfer.md R251. -/
def execMovLLoadPcDisp (disp : BitVec 8) (rn : Reg) (s : State) : Res :=
  notInSlot s (load16 .long (eaDisp (pcBaseAligned s) (zext disp) .long) rn s)

/-- `MOV #imm8s, Rn`: 40_data_transfer.md R211. -/
def execMovImm8 (imm : BitVec 8) (rn : Reg) (s : State) : Res := toReg16 rn (sext imm) s

/-- `MOV.B Rm, @(Rn, Ro, disp4)`: 40_data_transfer.md R276. -/
def execMovBStoreIdx4 (rm : Reg) (rn : Reg) (ro : Reg) (disp : BitVec 4) (s : State) : Res :=
  notInSlot s (indexed ro (store32 .byte (indexEa s (s.reg rn) ro (zext disp) (Width.size .byte)) (s.reg rm) s))

/-- `MOV.W Rm, @(Rn, Ro, disp4)`: 40_data_transfer.md R276. -/
def execMovWStoreIdx4 (rm : Reg) (rn : Reg) (ro : Reg) (disp : BitVec 4) (s : State) : Res :=
  notInSlot s (indexed ro (store32 .half (indexEa s (s.reg rn) ro (zext disp) (Width.size .half)) (s.reg rm) s))

/-- `MOV.L Rm, @(Rn, Ro, disp4)`: 40_data_transfer.md R276. -/
def execMovLStoreIdx4 (rm : Reg) (rn : Reg) (ro : Reg) (disp : BitVec 4) (s : State) : Res :=
  notInSlot s (indexed ro (store32 .long (indexEa s (s.reg rn) ro (zext disp) (Width.size .long)) (s.reg rm) s))

/-- `MOV.B @(Rm, Ro, disp4), Rn`: 40_data_transfer.md R277. -/
def execMovBLoadIdx4 (rm : Reg) (ro : Reg) (disp : BitVec 4) (rn : Reg) (s : State) : Res :=
  notInSlot s (indexed ro (load32 .byte (indexEa s (s.reg rm) ro (zext disp) (Width.size .byte)) rn s))

/-- `MOV.W @(Rm, Ro, disp4), Rn`: 40_data_transfer.md R277. -/
def execMovWLoadIdx4 (rm : Reg) (ro : Reg) (disp : BitVec 4) (rn : Reg) (s : State) : Res :=
  notInSlot s (indexed ro (load32 .half (indexEa s (s.reg rm) ro (zext disp) (Width.size .half)) rn s))

/-- `MOV.L @(Rm, Ro, disp4), Rn`: 40_data_transfer.md R277. -/
def execMovLLoadIdx4 (rm : Reg) (ro : Reg) (disp : BitVec 4) (rn : Reg) (s : State) : Res :=
  notInSlot s (indexed ro (load32 .long (indexEa s (s.reg rm) ro (zext disp) (Width.size .long)) rn s))

/-- `MOV.L Rm, @(Rn, Ro, disp8s)`: 40_data_transfer.md R278. -/
def execMovLStoreIdx8 (rm : Reg) (rn : Reg) (ro : Reg) (disp : BitVec 8) (s : State) : Res :=
  notInSlot s (indexed ro (store32 .long (indexEa s (s.reg rn) ro (sext disp) 4) (s.reg rm) s))

/-- `MOV.B Rm, @(Rn, disp8s)`: 40_data_transfer.md R279. -/
def execMovBStoreDisp8 (rm : Reg) (rn : Reg) (disp : BitVec 8) (s : State) : Res :=
  notInSlot s (store32 .byte (eaDisp (s.reg rn) (sext disp) .byte) (s.reg rm) s)

/-- `MOV.W Rm, @(Rn, disp8s)`: 40_data_transfer.md R279. -/
def execMovWStoreDisp8 (rm : Reg) (rn : Reg) (disp : BitVec 8) (s : State) : Res :=
  notInSlot s (store32 .half (eaDisp (s.reg rn) (sext disp) .half) (s.reg rm) s)

/-- `MOV.L Rm, @(Rn, disp8s)`: 40_data_transfer.md R279. -/
def execMovLStoreDisp8 (rm : Reg) (rn : Reg) (disp : BitVec 8) (s : State) : Res :=
  notInSlot s (store32 .long (eaDisp (s.reg rn) (sext disp) .long) (s.reg rm) s)

/-- `MOVU.B @(Rm, Ro), Rn`: 40_data_transfer.md R280. -/
def execMovuBLoadIdx (rm : Reg) (ro : Reg) (rn : Reg) (s : State) : Res :=
  notInSlot s (indexed ro (loadZero32 .byte (indexEa s (s.reg rm) ro 0 (Width.size .byte)) rn s))

/-- `MOVU.W @(Rm, Ro), Rn`: 40_data_transfer.md R280. -/
def execMovuWLoadIdx (rm : Reg) (ro : Reg) (rn : Reg) (s : State) : Res :=
  notInSlot s (indexed ro (loadZero32 .half (indexEa s (s.reg rm) ro 0 (Width.size .half)) rn s))

/-- `MOV.L @(Rm, Ro, disp8s), Rn`: 40_data_transfer.md R278. -/
def execMovLLoadIdx8 (rm : Reg) (ro : Reg) (disp : BitVec 8) (rn : Reg) (s : State) : Res :=
  notInSlot s (indexed ro (load32 .long (indexEa s (s.reg rm) ro (sext disp) 4) rn s))

/-- `MOV.B @(Rm, disp8s), Rn`: 40_data_transfer.md R281. -/
def execMovBLoadDisp8 (rm : Reg) (disp : BitVec 8) (rn : Reg) (s : State) : Res :=
  notInSlot s (load32 .byte (eaDisp (s.reg rm) (sext disp) .byte) rn s)

/-- `MOV.W @(Rm, disp8s), Rn`: 40_data_transfer.md R281. -/
def execMovWLoadDisp8 (rm : Reg) (disp : BitVec 8) (rn : Reg) (s : State) : Res :=
  notInSlot s (load32 .half (eaDisp (s.reg rm) (sext disp) .half) rn s)

/-- `MOV.L @(Rm, disp8s), Rn`: 40_data_transfer.md R281. -/
def execMovLLoadDisp8 (rm : Reg) (disp : BitVec 8) (rn : Reg) (s : State) : Res :=
  notInSlot s (load32 .long (eaDisp (s.reg rm) (sext disp) .long) rn s)

/-- `LEA.B @(Rm, Ro, disp4), Rn`: 40_data_transfer.md R271. -/
def execLeaBIdx4 (rm : Reg) (ro : Reg) (disp : BitVec 4) (rn : Reg) (s : State) : Res :=
  notInSlot s (leaIndexed ro (toReg32 rn (s.reg rm + (s.reg ro + zext disp) * 1) s))

/-- `LEA.W @(Rm, Ro, disp4), Rn`: 40_data_transfer.md R271. -/
def execLeaWIdx4 (rm : Reg) (ro : Reg) (disp : BitVec 4) (rn : Reg) (s : State) : Res :=
  notInSlot s (leaIndexed ro (toReg32 rn (s.reg rm + (s.reg ro + zext disp) * 2) s))

/-- `LEA.L @(Rm, Ro, disp4), Rn`: 40_data_transfer.md R271. -/
def execLeaLIdx4 (rm : Reg) (ro : Reg) (disp : BitVec 4) (rn : Reg) (s : State) : Res :=
  notInSlot s (leaIndexed ro (toReg32 rn (s.reg rm + (s.reg ro + zext disp) * 4) s))

/-- `LEA.Q @(Rm, Ro, disp4), Rn`: 40_data_transfer.md R271. -/
def execLeaQIdx4 (rm : Reg) (ro : Reg) (disp : BitVec 4) (rn : Reg) (s : State) : Res :=
  notInSlot s (leaIndexed ro (toReg32 rn (s.reg rm + (s.reg ro + zext disp) * 8) s))

/-- `LEA.B @(Rm, disp8s), Rn`: 40_data_transfer.md R272. -/
def execLeaBDisp8 (rm : Reg) (disp : BitVec 8) (rn : Reg) (s : State) : Res := toReg32 rn (s.reg rm + sext disp * 1) s

/-- `LEA.W @(Rm, disp8s), Rn`: 40_data_transfer.md R272. -/
def execLeaWDisp8 (rm : Reg) (disp : BitVec 8) (rn : Reg) (s : State) : Res := toReg32 rn (s.reg rm + sext disp * 2) s

/-- `LEA.L @(Rm, disp8s), Rn`: 40_data_transfer.md R272. -/
def execLeaLDisp8 (rm : Reg) (disp : BitVec 8) (rn : Reg) (s : State) : Res := toReg32 rn (s.reg rm + sext disp * 4) s

/-- `LEA.Q @(Rm, disp8s), Rn`: 40_data_transfer.md R272. -/
def execLeaQDisp8 (rm : Reg) (disp : BitVec 8) (rn : Reg) (s : State) : Res := toReg32 rn (s.reg rm + sext disp * 8) s

/-- `MOVU.B @(Rm, disp8s), Rn`: 40_data_transfer.md R282. -/
def execMovuBLoadDisp8 (rm : Reg) (disp : BitVec 8) (rn : Reg) (s : State) : Res :=
  notInSlot s (loadZero32 .byte (eaDisp (s.reg rm) (sext disp) .byte) rn s)

/-- `MOVU.W @(Rm, disp8s), Rn`: 40_data_transfer.md R282. -/
def execMovuWLoadDisp8 (rm : Reg) (disp : BitVec 8) (rn : Reg) (s : State) : Res :=
  notInSlot s (loadZero32 .half (eaDisp (s.reg rm) (sext disp) .half) rn s)

/-- `LDSH16 #imm16s, Rn`: 40_data_transfer.md R212. -/
def execLdsh16 (imm : BitVec 16) (rn : Reg) (s : State) : Res := toReg32 rn ((s.reg rn <<< 16) + sext imm) s

/-- `MOV.B Rm, @(GBR, disp12)`: 40_data_transfer.md R283. -/
def execMovBStoreGbr12 (rm : Reg) (disp : BitVec 12) (s : State) : Res :=
  notInSlot s (store32 .byte (eaDisp s.gbr (zext disp) .byte) (s.reg rm) s)

/-- `MOV.W Rm, @(GBR, disp12)`: 40_data_transfer.md R283. -/
def execMovWStoreGbr12 (rm : Reg) (disp : BitVec 12) (s : State) : Res :=
  notInSlot s (store32 .half (eaDisp s.gbr (zext disp) .half) (s.reg rm) s)

/-- `MOV.L Rm, @(GBR, disp12)`: 40_data_transfer.md R283. -/
def execMovLStoreGbr12 (rm : Reg) (disp : BitVec 12) (s : State) : Res :=
  notInSlot s (store32 .long (eaDisp s.gbr (zext disp) .long) (s.reg rm) s)

/-- `MOV.B @(GBR, disp12), Rn`: 40_data_transfer.md R284. -/
def execMovBLoadGbr12 (disp : BitVec 12) (rn : Reg) (s : State) : Res :=
  notInSlot s (load32 .byte (eaDisp s.gbr (zext disp) .byte) rn s)

/-- `MOV.W @(GBR, disp12), Rn`: 40_data_transfer.md R284. -/
def execMovWLoadGbr12 (disp : BitVec 12) (rn : Reg) (s : State) : Res :=
  notInSlot s (load32 .half (eaDisp s.gbr (zext disp) .half) rn s)

/-- `MOV.L @(GBR, disp12), Rn`: 40_data_transfer.md R284. -/
def execMovLLoadGbr12 (disp : BitVec 12) (rn : Reg) (s : State) : Res :=
  notInSlot s (load32 .long (eaDisp s.gbr (zext disp) .long) rn s)

/-- `MOV #imm16s, Rn`: 40_data_transfer.md R211. -/
def execMovImm16 (imm : BitVec 16) (rn : Reg) (s : State) : Res := toReg32 rn (sext imm) s

end Sys2Proof.Machine
end

