-- ==== Sys2Proof/Machine/Float.lean ====
section
/-! DEFINITION. The floating-point arithmetic of 45_fpu.md R505: IEEE 754 binary32 and binary64 over exact integers,
rounded once at the end. Bit patterns are natural numbers here; a result of `none` is a NaN, whose pattern is free. -/

namespace Sys2Proof.Machine

/-- A floating-point format: the widths of its exponent and fraction fields. -/
structure FpFormat where
  exp : Nat
  frac : Nat
  deriving DecidableEq, Repr

/-- binary32 (45_fpu.md R505(a)). -/
def FpFormat.single : FpFormat := ⟨8, 23⟩
/-- binary64 (45_fpu.md R505(a)). -/
def FpFormat.double : FpFormat := ⟨11, 52⟩

/-- The number of bits of a pattern below its sign. -/
def FpFormat.signAt (f : FpFormat) : Nat := f.exp + f.frac
/-- The largest exponent field, that of infinities and NaNs. -/
def FpFormat.maxExp (f : FpFormat) : Nat := 2 ^ f.exp - 1
/-- The exponent bias. -/
def FpFormat.bias (f : FpFormat) : Nat := 2 ^ (f.exp - 1) - 1
/-- The exponent of the last place of a subnormal or of the smallest normal number. -/
def FpFormat.minUlp (f : FpFormat) : Int := 1 - (f.bias : Int) - (f.frac : Int)

/-- The sign of a pattern. -/
def FpFormat.sign (f : FpFormat) (x : Nat) : Bool := x / 2 ^ f.signAt % 2 == 1
/-- The exponent field of a pattern. -/
def FpFormat.expField (f : FpFormat) (x : Nat) : Nat := x / 2 ^ f.frac % 2 ^ f.exp
/-- The fraction field of a pattern. -/
def FpFormat.fracField (f : FpFormat) (x : Nat) : Nat := x % 2 ^ f.frac

/-- A pattern from its three fields. -/
def FpFormat.pack (f : FpFormat) (sign : Bool) (e m : Nat) : Nat :=
  sign.toNat * 2 ^ f.signAt + e * 2 ^ f.frac + m

/-- What a pattern stands for: `finite` is `sig * 2 ^ exp` with a sign. -/
inductive FpValue where
  | nan
  | infinite (sign : Bool)
  | finite (sign : Bool) (sig : Nat) (exp : Int)
  deriving DecidableEq, Repr

/-- The value of a pattern; with DN = 1 a denormal operand is zero of the same sign (45_fpu.md R505(c)). -/
def FpFormat.unpack (f : FpFormat) (dn : Bool) (x : Nat) : FpValue :=
  if f.expField x = f.maxExp then
    if f.fracField x = 0 then .infinite (f.sign x) else .nan
  else if f.expField x = 0 then
    if dn then .finite (f.sign x) 0 f.minUlp else .finite (f.sign x) (f.fracField x) f.minUlp
  else .finite (f.sign x) (2 ^ f.frac + f.fracField x) (f.minUlp + (f.expField x : Int) - 1)

/-- The pattern of zero. -/
def FpFormat.zero (f : FpFormat) (sign : Bool) : Nat := f.pack sign 0 0
/-- The pattern of infinity. -/
def FpFormat.inf (f : FpFormat) (sign : Bool) : Nat := f.pack sign f.maxExp 0
/-- The pattern of the largest finite number. -/
def FpFormat.maxFinite (f : FpFormat) (sign : Bool) : Nat := f.pack sign (f.maxExp - 1) (2 ^ f.frac - 1)

/-- Overflow: infinity under round to nearest, the largest finite number toward zero (45_fpu.md R505(d)). -/
def FpFormat.overflow (f : FpFormat) (toZero sign : Bool) : Nat :=
  if toZero then f.maxFinite sign else f.inf sign

/-- `sig / 2 ^ k` rounded to an integer: toward zero, or to nearest with ties to even; `sticky` says that the exact
value lies strictly between `sig` and `sig + 1` (45_fpu.md R505(b)). -/
def roundShift (toZero sticky : Bool) (sig k : Nat) : Nat :=
  let kept := sig / 2 ^ k
  let rest := 2 * (sig % 2 ^ k)
  if toZero then kept
  else if rest < 2 ^ k then kept
  else if rest = 2 ^ k ∧ sticky = false ∧ kept % 2 = 0 then kept
  else kept + 1

/-- The exponent of the last place that a value with significand `sig` and exponent `e` is rounded to. -/
def FpFormat.ulpOf (f : FpFormat) (sig : Nat) (e : Int) : Int :=
  max (e + (Nat.log2 sig : Int) - (f.frac : Int)) f.minUlp

/-- A rounded significand at its last place, as a pattern; a carry out of the fraction raises the exponent. -/
def FpFormat.assemble (f : FpFormat) (toZero dn sign : Bool) (sig : Nat) (ulp : Int) : Nat :=
  if sig < 2 ^ f.frac then
    if dn then f.zero sign else f.pack sign 0 sig
  else
    let carry := decide (2 ^ (f.frac + 1) ≤ sig)
    let field := (ulp - f.minUlp).toNat + 1 + carry.toNat
    let frac := if carry then 0 else sig - 2 ^ f.frac
    if f.maxExp ≤ field then f.overflow toZero sign else f.pack sign field frac

/-- The nearest pattern to `sig * 2 ^ e`, or to a value just above it when `sticky` (45_fpu.md R505(b) to (d)). A result
below the smallest normal number, judged after rounding, is zero when DN = 1. -/
def FpFormat.round (f : FpFormat) (toZero dn sign sticky : Bool) (sig : Nat) (e : Int) : Nat :=
  if sig = 0 then f.zero sign
  else
    let ulp := f.ulpOf sig e
    let r := if e ≤ ulp then roundShift toZero sticky sig (ulp - e).toNat else sig * 2 ^ (e - ulp).toNat
    f.assemble toZero dn sign r ulp

/-- The rounding of an exact signed sum; an exact zero is `+0` unless both terms were negative zeros. -/
def FpFormat.roundInt (f : FpFormat) (toZero dn zeroSign : Bool) (x : Int) (e : Int) : Nat :=
  if x = 0 then f.zero zeroSign else f.round toZero dn (decide (x < 0)) false x.natAbs e

/-- A finite value as an integer at exponent `e`, which is at most its own. -/
def signedAt (sign : Bool) (sig : Nat) (x e : Int) : Int :=
  let v : Int := (sig * 2 ^ (x - e).toNat : Nat)
  if sign then -v else v

/-- The sum of two values (45_fpu.md R510, R505(d)). -/
def FpFormat.addValues (f : FpFormat) (toZero dn : Bool) (a b : FpValue) : Option Nat :=
  match a, b with
  | .nan, _ => none
  | _, .nan => none
  | .infinite s, .infinite t => if s = t then some (f.inf s) else none
  | .infinite s, .finite _ _ _ => some (f.inf s)
  | .finite _ _ _, .infinite t => some (f.inf t)
  | .finite s x i, .finite t y j =>
    let e := min i j
    some (f.roundInt toZero dn (s && t && (x == 0) && (y == 0)) (signedAt s x i e + signedAt t y j e) e)

/-- A value with its sign turned. -/
def FpValue.neg : FpValue → FpValue
  | .nan => .nan
  | .infinite s => .infinite (!s)
  | .finite s x e => .finite (!s) x e

/-- The exact product of two values, not rounded (45_fpu.md R512, R519). -/
def FpValue.mul (a b : FpValue) : FpValue :=
  match a, b with
  | .nan, _ => .nan
  | _, .nan => .nan
  | .infinite s, .infinite t => .infinite (s != t)
  | .infinite s, .finite t y _ => if y = 0 then .nan else .infinite (s != t)
  | .finite s x _, .infinite t => if x = 0 then .nan else .infinite (s != t)
  | .finite s x i, .finite t y j => .finite (s != t) (x * y) (i + j)

/-- A value rounded to a pattern. -/
def FpFormat.roundValue (f : FpFormat) (toZero dn : Bool) (a : FpValue) : Option Nat :=
  match a with
  | .nan => none
  | .infinite s => some (f.inf s)
  | .finite s x e => some (f.round toZero dn s false x e)

/-- The quotient of two values (45_fpu.md R513, R505(d)); the dividend is shifted far enough that the integer quotient
holds every bit that rounding looks at. -/
def FpFormat.divValues (f : FpFormat) (toZero dn : Bool) (a b : FpValue) : Option Nat :=
  match a, b with
  | .nan, _ => none
  | _, .nan => none
  | .infinite _, .infinite _ => none
  | .infinite s, .finite t _ _ => some (f.inf (s != t))
  | .finite s _ _, .infinite t => some (f.zero (s != t))
  | .finite s x i, .finite t y j =>
    if y = 0 then if x = 0 then none else some (f.inf (s != t))
    else
      let k := f.frac + 3 + Nat.log2 y
      some (f.round toZero dn (s != t) (x * 2 ^ k % y != 0) (x * 2 ^ k / y) (i - j - (k : Int)))

/-- The greatest `r` of the form `r0 + (bits below 2 ^ k)` whose square is at most `n`. -/
def isqrtFrom (n : Nat) : Nat → Nat → Nat
  | 0, r => r
  | k + 1, r => if (r + 2 ^ k) * (r + 2 ^ k) ≤ n then isqrtFrom n k (r + 2 ^ k) else isqrtFrom n k r

/-- The integer square root. -/
def isqrt (n : Nat) : Nat := isqrtFrom n (Nat.log2 n / 2 + 1) 0

/-- The square root of a value (45_fpu.md R518, R505(d)): that of a negative number is a NaN, of -0 it is -0. -/
def FpFormat.sqrtValue (f : FpFormat) (toZero dn : Bool) (a : FpValue) : Option Nat :=
  match a with
  | .nan => none
  | .infinite s => if s then none else some (f.inf false)
  | .finite s x e =>
    if x = 0 then some (f.zero s)
    else if s then none
    else
      let k := 2 * (f.frac + 3) + (e % 2).toNat
      let n := x * 2 ^ k
      some (f.round toZero dn false (isqrt n * isqrt n != n) (isqrt n) ((e - (k : Int)) / 2))

/-! ### The named functions of 45_fpu.md -/

/-- `fadd` (45_fpu.md R510). -/
def FpFormat.add (f : FpFormat) (toZero dn : Bool) (a b : Nat) : Option Nat :=
  f.addValues toZero dn (f.unpack dn a) (f.unpack dn b)
/-- `fsub`: the first minus the second (45_fpu.md R511). -/
def FpFormat.sub (f : FpFormat) (toZero dn : Bool) (a b : Nat) : Option Nat :=
  f.addValues toZero dn (f.unpack dn a) (f.unpack dn b).neg
/-- `fmul` (45_fpu.md R512). -/
def FpFormat.mul (f : FpFormat) (toZero dn : Bool) (a b : Nat) : Option Nat :=
  f.roundValue toZero dn ((f.unpack dn a).mul (f.unpack dn b))
/-- `fdiv`: the first divided by the second (45_fpu.md R513). -/
def FpFormat.div (f : FpFormat) (toZero dn : Bool) (a b : Nat) : Option Nat :=
  f.divValues toZero dn (f.unpack dn a) (f.unpack dn b)
/-- `fsqrt` (45_fpu.md R518). -/
def FpFormat.sqrt (f : FpFormat) (toZero dn : Bool) (a : Nat) : Option Nat :=
  f.sqrtValue toZero dn (f.unpack dn a)

/-- `a * b + c` (45_fpu.md R519): one rounding when fused; otherwise the product is rounded to the format first. -/
def FpFormat.mac (f : FpFormat) (fused toZero dn : Bool) (a b c : Nat) : Option Nat :=
  if fused then f.addValues toZero dn ((f.unpack dn a).mul (f.unpack dn b)) (f.unpack dn c)
  else match f.mul toZero dn a b with
    | none => none
    | some p => f.add toZero dn p c

/-- The order of a number that is no NaN: patterns of either sign as integers, with both zeros at 0. -/
def FpFormat.key (f : FpFormat) (dn : Bool) (x : Nat) : Int :=
  let mag : Nat := if dn && f.expField x == 0 then 0 else x % 2 ^ f.signAt
  if f.sign x then -(mag : Int) else (mag : Int)

/-- The pattern is a NaN. -/
def FpFormat.isNan (f : FpFormat) (x : Nat) : Bool := f.expField x == f.maxExp && f.fracField x != 0

/-- Equality as numbers; a NaN equals nothing (45_fpu.md R514). -/
def FpFormat.eq (f : FpFormat) (dn : Bool) (a b : Nat) : Bool :=
  !f.isNan a && !f.isNan b && f.key dn a == f.key dn b

/-- The first is greater than the second; false when either is a NaN (45_fpu.md R515). -/
def FpFormat.gt (f : FpFormat) (dn : Bool) (a b : Nat) : Bool :=
  !f.isNan a && !f.isNan b && decide (f.key dn b < f.key dn a)

/-- `i2f`: a signed integer as a pattern (45_fpu.md R532). -/
def FpFormat.ofSigned (f : FpFormat) (toZero dn : Bool) (x : Int) : Nat := f.roundInt toZero dn false x 0

/-- `f2i`: the value with its fraction discarded, where it is in the signed 32-bit range (45_fpu.md R533). -/
def FpFormat.truncate (f : FpFormat) (dn : Bool) (x : Nat) : Option Int :=
  match f.unpack dn x with
  | .nan => none
  | .infinite _ => none
  | .finite s sig e =>
    let mag : Nat := if 0 ≤ e then sig * 2 ^ e.toNat else sig / 2 ^ (-e).toNat
    let v : Int := if s then -(mag : Int) else (mag : Int)
    if outOfSigned v then none else some v

/-- A pattern of one format as the nearest pattern of another (45_fpu.md R536, R545). -/
def FpFormat.convert (f g : FpFormat) (toZero dn : Bool) (x : Nat) : Option Nat :=
  g.roundValue toZero dn (f.unpack dn x)

/-- A NaN made from arbitrary bits: sign and fraction are theirs, the exponent is all ones, and the fraction is not 0
(45_fpu.md R505(d), U17). Every NaN of the format is made from some bits. -/
def FpFormat.nanFrom (f : FpFormat) (bits : Nat) : Nat :=
  f.pack (f.sign bits) f.maxExp (if f.fracField bits = 0 then 1 else f.fracField bits)

/-! ### Half precision (45_fpu.md R537, R539) -/

/-- `repack(h)` (45_fpu.md R537). -/
def halfRepack (h : Half) : Word :=
  (zext (h.extractLsb' 15 1) <<< 31) ||| ((zext (h.extractLsb' 10 5) + 112) <<< 23) ||| (zext (h.extractLsb' 0 10) <<< 13)

/-- A half that the immediate form does not support: exponent 31, or a denormal (45_fpu.md R537, U20). -/
def halfUndefined (h : Half) : Bool :=
  h.extractLsb' 10 5 == 31 || (h.extractLsb' 10 5 == 0 && h.extractLsb' 0 10 != 0)

/-- The rounding increment of STHF16 from the thirteen bits shortened away and the last bit kept; `free` is taken where
the implementation fixes none (45_fpu.md R539). -/
def halfIncrement (mode : HalfRounding) (free : Bool) (lost : Nat) (lastKept : Bool) : Bool :=
  if lost = 0 then false
  else match mode with
    | .towardZero => false
    | .nearestEven => decide (4096 < lost) || (lost == 4096 && lastKept)
    | .awayFromZero => true
    | .unfixed => free

/-- The half of a single (45_fpu.md R539). -/
def singleToHalf (mode : HalfRounding) (free : Bool) (x : Word) : Word :=
  let s := zext (x.extractLsb' 31 1)
  let e := (x.extractLsb' 23 8).toNat
  if 143 ≤ e then (s <<< 15) ||| 0x7C00
  else if e ≤ 112 then 0
  else
    let q := (e - 112) * 1024 + (x.extractLsb' 13 10).toNat
      + (halfIncrement mode free (x.extractLsb' 0 13).toNat (x.getLsbD 13)).toNat
    (s <<< 15) ||| BitVec.ofNat 32 q

end Sys2Proof.Machine
end

