-- ==== Sys2Proof/Machine/System.lean ====
section
/-! DEFINITION. The system and control-register instructions of 44_system.md. A privileged one is checked before any
operand is read (60_exceptions.md R630); an FPU-gated one before anything else (45_fpu.md R502). -/

namespace Sys2Proof.Machine

/-- `GBR <- v` (10_state.md R40). -/
def State.setGbr (s : State) (v : Word) : State := { s with gbr := v }
/-- `VBR <- v` (10_state.md R40). -/
def State.setVbr (s : State) (v : Word) : State := { s with vbr := v }
/-- `SSR <- v`, not masked (10_state.md R31). -/
def State.setSsr (s : State) (v : Word) : State := { s with ssr := v }
/-- `SPC <- v` (10_state.md R40). -/
def State.setSpc (s : State) (v : Word) : State := { s with spc := v }
/-- `SGR <- v` (10_state.md R40). -/
def State.setSgr (s : State) (v : Word) : State := { s with sgr := v }
/-- `DBR <- v` (10_state.md R40). -/
def State.setDbr (s : State) (v : Word) : State := { s with dbr := v }
/-- `MACH <- v` (10_state.md R41). -/
def State.setMach (s : State) (v : Word) : State := { s with mach := v }
/-- `MACL <- v` (10_state.md R41). -/
def State.setMacl (s : State) (v : Word) : State := { s with macl := v }
/-- `FPUL <- v` (10_state.md R43). -/
def State.setFpul (s : State) (v : Word) : State := { s with fpul := v }
/-- `FPSCR <- v`, all 32 bits (10_state.md R44). -/
def State.setFpscr (s : State) (v : Word) : State := { s with fpscr := v }

/-- `@Rm+` into a register that is not a general one: the address register is incremented under the bank mapping in
force before the write (44_system.md R433, R446, R447). -/
def popTo (set : Word → State → State) (rm : Reg) (s : State) : Res :=
  (memRead .long (s.reg rm) s).andThen fun v s => done16 (set v (s.setReg rm (s.reg rm + 4)))

/-- ICBI: the word at the address is fetched fresh from now on; by a free choice it raises the exception a 1-byte load
would (44_system.md R460, U15). -/
def invalidateFetch (va : Word) (s : State) : Res :=
  if Config.freeCacheFault s.free then
    (locate .read s.md .byte va s.drawn).andThen fun pa s => done16 (s.invalidate pa)
  else match probe va s.drawn with
    | some pa => done16 (s.drawn.invalidate pa)
    | none => done16 s.drawn

/-! ### The instructions -/

/-- `STC SR, Rn`: 44_system.md R440. -/
def execStcSr (rn : Reg) (s : State) : Res := privileged s (toReg16 rn s.sr s)

/-- `STC GBR, Rn`: 44_system.md R440. -/
def execStcGbr (rn : Reg) (s : State) : Res := toReg16 rn s.gbr s

/-- `STC VBR, Rn`: 44_system.md R440. -/
def execStcVbr (rn : Reg) (s : State) : Res := privileged s (toReg16 rn s.vbr s)

/-- `STC SSR, Rn`: 44_system.md R440. -/
def execStcSsr (rn : Reg) (s : State) : Res := privileged s (toReg16 rn s.ssr s)

/-- `STC SPC, Rn`: 44_system.md R440. -/
def execStcSpc (rn : Reg) (s : State) : Res := privileged s (toReg16 rn s.spc s)

/-- `STC Rm_B, Rn`: 44_system.md R441. -/
def execStcBank (b : BReg) (rn : Reg) (s : State) : Res := privileged s (toReg16 rn (s.otherBank b) s)

/-- `ICBI @Rn`: 44_system.md R460. -/
def execIcbi (rn : Reg) (s : State) : Res := invalidateFetch (s.reg rn) s

/-- `CLRT`: 44_system.md R452. -/
def execClrt (s : State) : Res := toT16 false s

/-- `SETT`: 44_system.md R455. -/
def execSett (s : State) : Res := toT16 true s

/-- `CLRMAC`: 44_system.md R450. -/
def execClrmac (s : State) : Res := done16 { s with mach := 0, macl := 0 }

/-- `LDTLB`: 44_system.md R462. -/
def execLdtlb (s : State) : Res := privileged s (done16 s)

/-- `CLRS`: 44_system.md R451. -/
def execClrs (s : State) : Res := done16 (s.setS false)

/-- `SETS`: 44_system.md R454. -/
def execSets (s : State) : Res := done16 (s.setS true)

/-- `NOTT`: 44_system.md R453. -/
def execNott (s : State) : Res := toT16 (!s.t) s

/-- `NOP`: 44_system.md R456. -/
def execNop (_imm : BitVec 4) (s : State) : Res := done16 s

/-- `STS MACH, Rn`: 44_system.md R430. -/
def execStsMach (rn : Reg) (s : State) : Res := toReg16 rn s.mach s

/-- `STS MACL, Rn`: 44_system.md R430. -/
def execStsMacl (rn : Reg) (s : State) : Res := toReg16 rn s.macl s

/-- `STS PR, Rn`: 44_system.md R430. -/
def execStsPr (rn : Reg) (s : State) : Res := toReg16 rn s.pr s

/-- `STC SGR, Rn`: 44_system.md R440. -/
def execStcSgr (rn : Reg) (s : State) : Res := privileged s (toReg16 rn s.sgr s)

/-- `STS FPUL, Rn`: 44_system.md R430. -/
def execStsFpul (rn : Reg) (s : State) : Res := fpuGated s (toReg16 rn s.fpul s)

/-- `STS FPSCR, Rn`: 44_system.md R430. -/
def execStsFpscr (rn : Reg) (s : State) : Res := fpuGated s (toReg16 rn s.fpscr s)

/-- `STC DBR, Rn`: 44_system.md R440. -/
def execStcDbr (rn : Reg) (s : State) : Res := privileged s (toReg16 rn s.dbr s)

/-- `SLEEP`: 44_system.md R468. -/
def execSleep (s : State) : Res := privileged s (.next { s.advance 2 with asleep := true })

/-- `RTE`: 44_system.md R470. -/
def execRte (s : State) : Res := notInSlot s (privileged s (.next (returnFromException s)))

/-- `BRK`: 44_system.md R466. -/
def execBrk (s : State) : Res := raise .uBrk s

/-- `STS.L MACH, @-Rn`: 44_system.md R431. -/
def execStslMach (rn : Reg) (s : State) : Res := storePreDec .long s.mach rn s

/-- `STS.L MACL, @-Rn`: 44_system.md R431. -/
def execStslMacl (rn : Reg) (s : State) : Res := storePreDec .long s.macl rn s

/-- `STS.L PR, @-Rn`: 44_system.md R431. -/
def execStslPr (rn : Reg) (s : State) : Res := storePreDec .long s.pr rn s

/-- `STC.L SGR, @-Rn`: 44_system.md R442. -/
def execStclSgr (rn : Reg) (s : State) : Res := privileged s (storePreDec .long s.sgr rn s)

/-- `STS.L FPUL, @-Rn`: 44_system.md R431. -/
def execStslFpul (rn : Reg) (s : State) : Res := fpuGated s (storePreDec .long s.fpul rn s)

/-- `STS.L FPSCR, @-Rn`: 44_system.md R431. -/
def execStslFpscr (rn : Reg) (s : State) : Res := fpuGated s (storePreDec .long s.fpscr rn s)

/-- `STC.L DBR, @-Rn`: 44_system.md R442. -/
def execStclDbr (rn : Reg) (s : State) : Res := privileged s (storePreDec .long s.dbr rn s)

/-- `STC.L SR, @-Rn`: 44_system.md R442. -/
def execStclSr (rn : Reg) (s : State) : Res := privileged s (storePreDec .long s.sr rn s)

/-- `STC.L GBR, @-Rn`: 44_system.md R442. -/
def execStclGbr (rn : Reg) (s : State) : Res := storePreDec .long s.gbr rn s

/-- `STC.L VBR, @-Rn`: 44_system.md R442. -/
def execStclVbr (rn : Reg) (s : State) : Res := privileged s (storePreDec .long s.vbr rn s)

/-- `STC.L SSR, @-Rn`: 44_system.md R442. -/
def execStclSsr (rn : Reg) (s : State) : Res := privileged s (storePreDec .long s.ssr rn s)

/-- `STC.L SPC, @-Rn`: 44_system.md R442. -/
def execStclSpc (rn : Reg) (s : State) : Res := privileged s (storePreDec .long s.spc rn s)

/-- `STC.L Rm_B, @-Rn`: 44_system.md R443. -/
def execStclBank (b : BReg) (rn : Reg) (s : State) : Res := privileged s (storePreDec .long (s.otherBank b) rn s)

/-- `LDS.L @Rm+, MACH`: 44_system.md R433. -/
def execLdslMach (rm : Reg) (s : State) : Res := popTo (fun v s => s.setMach v) rm s

/-- `LDS.L @Rm+, MACL`: 44_system.md R433. -/
def execLdslMacl (rm : Reg) (s : State) : Res := popTo (fun v s => s.setMacl v) rm s

/-- `LDS.L @Rm+, PR`: 44_system.md R433. -/
def execLdslPr (rm : Reg) (s : State) : Res := popTo (fun v s => s.setPr v) rm s

/-- `LDC.L @Rm+, SGR`: 44_system.md R446. -/
def execLdclSgr (rm : Reg) (s : State) : Res := privileged s (popTo (fun v s => s.setSgr v) rm s)

/-- `LDS.L @Rm+, FPUL`: 44_system.md R433. -/
def execLdslFpul (rm : Reg) (s : State) : Res := fpuGated s (popTo (fun v s => s.setFpul v) rm s)

/-- `LDS.L @Rm+, FPSCR`: 44_system.md R433. -/
def execLdslFpscr (rm : Reg) (s : State) : Res := fpuGated s (popTo (fun v s => s.setFpscr v) rm s)

/-- `LDC.L @Rm+, DBR`: 44_system.md R446. -/
def execLdclDbr (rm : Reg) (s : State) : Res := privileged s (popTo (fun v s => s.setDbr v) rm s)

/-- `LDC.L @Rm+, SR`: 44_system.md R446. -/
def execLdclSr (rm : Reg) (s : State) : Res := privileged s (popTo (fun v s => s.setSr v) rm s)

/-- `LDC.L @Rm+, GBR`: 44_system.md R446. -/
def execLdclGbr (rm : Reg) (s : State) : Res := popTo (fun v s => s.setGbr v) rm s

/-- `LDC.L @Rm+, VBR`: 44_system.md R446. -/
def execLdclVbr (rm : Reg) (s : State) : Res := privileged s (popTo (fun v s => s.setVbr v) rm s)

/-- `LDC.L @Rm+, SSR`: 44_system.md R446. -/
def execLdclSsr (rm : Reg) (s : State) : Res := privileged s (popTo (fun v s => s.setSsr v) rm s)

/-- `LDC.L @Rm+, SPC`: 44_system.md R446. -/
def execLdclSpc (rm : Reg) (s : State) : Res := privileged s (popTo (fun v s => s.setSpc v) rm s)

/-- `LDC.L @Rm+, Rn_B`: 44_system.md R447. -/
def execLdclBank (rm : Reg) (b : BReg) (s : State) : Res := privileged s (popTo (fun v s => s.setOtherBank b v) rm s)

/-- `LDS Rm, MACH`: 44_system.md R432. -/
def execLdsMach (rm : Reg) (s : State) : Res := done16 (s.setMach (s.reg rm))

/-- `LDS Rm, MACL`: 44_system.md R432. -/
def execLdsMacl (rm : Reg) (s : State) : Res := done16 (s.setMacl (s.reg rm))

/-- `LDS Rm, PR`: 44_system.md R432. -/
def execLdsPr (rm : Reg) (s : State) : Res := done16 (s.setPr (s.reg rm))

/-- `LDC Rm, SGR`: 44_system.md R444. -/
def execLdcSgr (rm : Reg) (s : State) : Res := privileged s (done16 (s.setSgr (s.reg rm)))

/-- `LDS Rm, FPUL`: 44_system.md R432. -/
def execLdsFpul (rm : Reg) (s : State) : Res := fpuGated s (done16 (s.setFpul (s.reg rm)))

/-- `LDS Rm, FPSCR`: 44_system.md R432. -/
def execLdsFpscr (rm : Reg) (s : State) : Res := fpuGated s (done16 (s.setFpscr (s.reg rm)))

/-- `LDC Rm, DBR`: 44_system.md R444. -/
def execLdcDbr (rm : Reg) (s : State) : Res := privileged s (done16 (s.setDbr (s.reg rm)))

/-- `LDC Rm, SR`: 44_system.md R444. -/
def execLdcSr (rm : Reg) (s : State) : Res := privileged s (done16 (s.setSr (s.reg rm)))

/-- `LDC Rm, GBR`: 44_system.md R444. -/
def execLdcGbr (rm : Reg) (s : State) : Res := done16 (s.setGbr (s.reg rm))

/-- `LDC Rm, VBR`: 44_system.md R444. -/
def execLdcVbr (rm : Reg) (s : State) : Res := privileged s (done16 (s.setVbr (s.reg rm)))

/-- `LDC Rm, SSR`: 44_system.md R444. -/
def execLdcSsr (rm : Reg) (s : State) : Res := privileged s (done16 (s.setSsr (s.reg rm)))

/-- `LDC Rm, SPC`: 44_system.md R444. -/
def execLdcSpc (rm : Reg) (s : State) : Res := privileged s (done16 (s.setSpc (s.reg rm)))

/-- `LDC Rm, Rn_B`: 44_system.md R445. -/
def execLdcBank (rm : Reg) (b : BReg) (s : State) : Res := privileged s (done16 (s.setOtherBank b (s.reg rm)))

/-- `TRAPA #imm8`: 44_system.md R472. -/
def execTrapa (imm : BitVec 8) (s : State) : Res := notInSlot s (raise (.trap imm) s)

end Sys2Proof.Machine
end

