-- ==== Sys2Proof/Machine/Fpu.lean ====
section
/-! DEFINITION. The floating-point instructions of 45_fpu.md. Every one is FPU-gated first (R502); arithmetic follows
FPSCR.PR and moves follow FPSCR.SZ (R503). -/

namespace Sys2Proof.Machine

/-! ### Checks -/

/-- An instruction that accesses FPU registers: gated, and refused on a Basic-profile core with FPSCR.FR = 1
(45_fpu.md R501). -/
def fpuBanked (s : State) (k : Res) : Res :=
  fpuGated s (if s.cfg.fpuProfile = .basic ∧ s.frBit = true then .refused .absentFpuBank else k)

/-- A pair operand with an odd number needs the XF bank (45_fpu.md R501, R504). -/
def pairPresent (s : State) (r : FReg) (k : Res) : Res :=
  if s.cfg.fpuProfile = .basic ∧ pairOdd r = true then .refused .absentFpuBank else k

/-- Arithmetic is defined for RM = 0 and 1 only, also where nothing is rounded; R533 alone frees FTRC of it
(45_fpu.md R503, R505(b), U16). -/
def roundingDefined (s : State) (k : Res) : Res :=
  if 2 ≤ s.rm.toNat then .refused .undefinedRounding else k

/-- RM = 1 rounds toward zero (45_fpu.md R505(b)). -/
def State.toZero (s : State) : Bool := s.rm == 1

/-! ### Results -/

/-- The bits of a result; of a NaN, any NaN of the format (45_fpu.md R505(d), U17). -/
def fpBits (f : FpFormat) (r : Option Nat) (n : Nat) : Nat :=
  match r with
  | some x => x
  | none => f.nanFrom (Config.freeNan n).toNat

/-- A single result (45_fpu.md R505(a)). -/
def singleBits (r : Option Nat) (n : Nat) : Word := BitVec.ofNat 32 (fpBits .single r n)
/-- A double result (45_fpu.md R505(a)). -/
def doubleBits (r : Option Nat) (n : Nat) : DWord := BitVec.ofNat 64 (fpBits .double r n)

/-! ### Arithmetic -/

/-- A two-operand arithmetic function of format, rounding and DN. -/
abbrev FpOp := FpFormat → Bool → Bool → Nat → Nat → Option Nat

/-- FADD, FSUB, FMUL, FDIV: `Rn <- op(Ra, Rb)` on cells with PR = 0, on pairs with PR = 1 (45_fpu.md R510 to R513,
R520). -/
def arith (op : FpOp) (ra rb rn : FReg) (fin : State → Res) (s : State) : Res :=
  roundingDefined s
    (if s.prec then
      pairPresent s ra (pairPresent s rb (pairPresent s rn
        (fin (s.setDr rn
          (doubleBits (op .double s.toZero s.dn (s.dr ra).toNat (s.dr rb).toNat) s.free)).drawn)))
    else
      fin (s.setFr rn
        (singleBits (op .single s.toZero s.dn (s.fr ra).toNat (s.fr rb).toNat) s.free)).drawn)

/-- FCMPEQ and FCMPGT: T from the values of `Rn` and `Rm` (45_fpu.md R514, R515). -/
def compare (rel : FpFormat → Bool → Nat → Nat → Bool) (rn rm : FReg) (s : State) : Res :=
  roundingDefined s
    (if s.prec then
      pairPresent s rn (pairPresent s rm (toT16 (rel .double s.dn (s.dr rn).toNat (s.dr rm).toNat) s))
    else toT16 (rel .single s.dn (s.fr rn).toNat (s.fr rm).toNat) s)

/-- FNEG and FABS act on the cell that holds the sign (45_fpu.md R516, R517). -/
def onSign (g : Word → Word) (rn : FReg) (s : State) : Res :=
  roundingDefined s
    (if s.prec then pairPresent s rn (done16 (s.setDr rn (g (hiWord (s.dr rn)) ++ loWord (s.dr rn))))
    else done16 (s.setFr rn (g (s.fr rn))))

/-- FSQRT (45_fpu.md R518). -/
def squareRoot (rn : FReg) (s : State) : Res :=
  roundingDefined s
    (if s.prec then
      pairPresent s rn
        (done16 (s.setDr rn (doubleBits (FpFormat.sqrt .double s.toZero s.dn (s.dr rn).toNat) s.free)).drawn)
    else
      done16 (s.setFr rn (singleBits (FpFormat.sqrt .single s.toZero s.dn (s.fr rn).toNat) s.free)).drawn)

/-- FMAC: `FRn <- FR0 * FRm + FRn`, defined for PR = 0 only (45_fpu.md R503, R519). -/
def multiplyAccumulate (rm rn : FReg) (s : State) : Res :=
  if s.prec then .refused .undefinedFpuMode
  else roundingDefined s
    (done16 (s.setFr rn
      (singleBits (FpFormat.mac .single s.cfg.fmacFused s.toZero s.dn
        (s.fr 0).toNat (s.fr rm).toNat (s.fr rn).toNat) s.free)).drawn)

/-- FLDI0 and FLDI1: a constant in the format PR selects (45_fpu.md R534, R535). -/
def loadConstant (single : Word) (double : DWord) (rn : FReg) (s : State) : Res :=
  roundingDefined s
    (if s.prec then pairPresent s rn (done16 (s.setDr rn double)) else done16 (s.setFr rn single))

/-! ### Conversions -/

/-- FLOAT: the signed integer in FPUL; the double result is exact (45_fpu.md R532). -/
def intToFloat (rn : FReg) (s : State) : Res :=
  roundingDefined s
    (if s.prec then
      pairPresent s rn
        (done16 (s.setDr rn (BitVec.ofNat 64 (FpFormat.ofSigned .double s.toZero s.dn s.fpul.toInt))))
    else
      done16 (s.setFr rn (BitVec.ofNat 32 (FpFormat.ofSigned .single s.toZero s.dn s.fpul.toInt))))

/-- The integer FTRC leaves in FPUL; out of range, any value (45_fpu.md R533, U19). -/
def truncated (r : Option Int) (n : Nat) : Word :=
  match r with
  | some x => BitVec.ofInt 32 x
  | none => Config.freeTruncate n

/-- FTRC, whatever RM holds (45_fpu.md R533). -/
def floatToInt (rm : FReg) (s : State) : Res :=
  if s.prec then
    pairPresent s rm (done16 (s.setFpul (truncated (FpFormat.truncate .double s.dn (s.dr rm).toNat) s.free)).drawn)
  else done16 (s.setFpul (truncated (FpFormat.truncate .single s.dn (s.fr rm).toNat) s.free)).drawn

/-- FCNVSD: the single in FPUL widened, defined for PR = 1 only; exact, so no rounding mode matters
(45_fpu.md R503, R536). -/
def singleToDouble (rn : FReg) (s : State) : Res :=
  if s.prec then
    pairPresent s rn
      (done16 (s.setDr rn
        (doubleBits (FpFormat.convert .single .double false s.dn s.fpul.toNat) s.free)).drawn)
  else .refused .undefinedFpuMode

/-- FCNVDS: the double of `pair(m)` narrowed into FPUL, defined for PR = 1 only (45_fpu.md R503, R545). -/
def doubleToSingle (rm : FReg) (s : State) : Res :=
  if s.prec then
    roundingDefined s (pairPresent s rm
      (done16 (s.setFpul
        (singleBits (FpFormat.convert .double .single s.toZero s.dn (s.dr rm).toNat) s.free)).drawn))
  else .refused .undefinedFpuMode

/-! ### Moves -/

/-- FMOV between registers: a bit copy of a cell, or of a pair with SZ = 1 (45_fpu.md R521). -/
def moveFp (rm rn : FReg) (s : State) : Res :=
  if s.sz then pairPresent s rm (pairPresent s rn (done16 (s.setDr rn (s.dr rm))))
  else done16 (s.setFr rn (s.fr rm))

/-- The bytes an FMOV.S form moves: 4, or 8 with SZ = 1 (45_fpu.md R522). -/
def fpSize (s : State) : Word := if s.sz then 8 else 4

/-- The scale of a displacement or index: 4, or FMOV_PAIR_SCALE with SZ = 1 (45_fpu.md R522, R528). -/
def fpScale (s : State) : Word :=
  if s.sz then
    match s.cfg.fmovPairScale with
    | .four => 4
    | .eight => 8
  else 4

/-- The word at the lower address is the high half of the pair: PR = 0 or a big-endian machine (45_fpu.md R522). -/
def pairHighFirst (s : State) : Bool := !s.prec || s.cfg.endian == .big

/-- A pair from the word at the lower address and the one above it (45_fpu.md R522). -/
def pairOfWords (s : State) (a b : Word) : DWord := if pairHighFirst s then a ++ b else b ++ a

/-- The word of a pair that goes to the lower address (45_fpu.md R522). -/
def pairFirst (s : State) (v : DWord) : Word := if pairHighFirst s then hiWord v else loWord v
/-- The word of a pair that goes to the upper address (45_fpu.md R522). -/
def pairSecond (s : State) (v : DWord) : Word := if pairHighFirst s then loWord v else hiWord v

/-- The two accesses of a pair load: both checked, then both performed, the lower address first (45_fpu.md R522). -/
def pairRead (ea : Word) (s : State) : Access DWord :=
  (resolve .read s.md .long ea s).bind fun p s =>
    (resolve .read s.md .long (ea + 4) s).bind fun q s =>
      (readPlace .long p s).bind fun a s =>
        (readPlace .long q s).bind fun b s => .ok (pairOfWords s a b) s

/-- The two accesses of a pair store: both checked, then both performed, the lower address first (45_fpu.md R522). -/
def pairWrite (ea : Word) (v : DWord) (s : State) : Access Unit :=
  (resolve .write s.md .long ea s).bind fun p s =>
    (resolve .write s.md .long (ea + 4) s).bind fun q s =>
      (writePlace .long (pairFirst s v) p s).bind fun _ s => writePlace .long (pairSecond s v) q s

/-- A memory load of a cell or, with SZ = 1, of a pair, then `fin` (45_fpu.md R522). -/
def fpLoad (rn : FReg) (ea : Word) (fin : State → Res) (s : State) : Res :=
  if s.sz then pairPresent s rn ((pairRead ea s).andThen fun v s => fin (s.setDr rn v))
  else (memRead .long ea s).andThen fun v s => fin (s.setFr rn v)

/-- A memory store of a cell or, with SZ = 1, of a pair, then `fin` (45_fpu.md R522). -/
def fpStore (rm : FReg) (ea : Word) (fin : State → Res) (s : State) : Res :=
  if s.sz then pairPresent s rm ((pairWrite ea (s.dr rm) s).andThen fun _ s => fin s)
  else (memWrite .long ea (s.fr rm) s).andThen fun _ s => fin s

/-! ### Half precision and mode changes -/

/-- LDHF16 of a register: zeros, infinities and NaNs to their equivalents, all else by the bit map (45_fpu.md R537). -/
def loadHalf (h : Half) (s : State) : Res :=
  if h.extractLsb' 0 15 = 0 then done16 (s.setFpul (zext (h.extractLsb' 15 1) <<< 31))
  else if h.extractLsb' 10 5 = 31 then
    if h.extractLsb' 0 10 = 0 then done16 (s.setFpul ((zext (h.extractLsb' 15 1) <<< 31) ||| 0x7F800000))
    else done16 (s.setFpul (singleBits none s.free)).drawn
  else done16 (s.setFpul (halfRepack h))

/-- LDHF16 of an immediate: the bit map, undefined for infinity, NaN and denormals (45_fpu.md R537, U20). -/
def loadHalfImmediate (h : Half) (s : State) : Res :=
  if halfUndefined h then .refused .undefinedHalfImmediate else done32 (s.setFpul (halfRepack h))

/-- STHF16 (45_fpu.md R539). -/
def storeHalf (rn : Reg) (s : State) : Res :=
  done16 (s.setReg rn (singleToHalf s.cfg.sthf16Round (Config.freeHalfRound s.free) s.fpul)).drawn

/-- The FPSCR that PSETMD leaves: SZ, PR and FR from the immediate, the rest kept or, with r = 1, cleared
(45_fpu.md R540). -/
def fpModeOf (imm : BitVec 4) (old : Word) : Word :=
  (if imm.getLsbD 1 then 0 else old &&& 0xFFC7FFFF)
    ||| (bit (imm.getLsbD 3) <<< 20) ||| (bit (imm.getLsbD 2) <<< 19) ||| (bit (imm.getLsbD 0) <<< 21)

/-- PSETMD; a Basic-profile core has no second bank to select (45_fpu.md R501, R540). -/
def setFpMode (imm : BitVec 4) (s : State) : Res :=
  if s.cfg.fpuProfile = .basic ∧ imm.getLsbD 0 = true then .refused .absentFpuBank
  else done16 (s.setFpscr (fpModeOf imm s.fpscr))

/-- FRCHG; refused on a Basic-profile core (45_fpu.md R501, R544). -/
def swapFpBanks (s : State) : Res :=
  if s.cfg.fpuProfile = .basic then .refused .absentFpuBank
  else done16 (s.setFpscr (s.fpscr ^^^ 0x00200000))

/-! ### The instructions -/

/-- `STHF16 FPUL, Rn`: 45_fpu.md R539. -/
def execSthf16 (rn : Reg) (s : State) : Res := fpuGated s (storeHalf rn s)

/-- `LDHF16 Rm, FPUL`: 45_fpu.md R537. -/
def execLdhf16 (rm : Reg) (s : State) : Res := fpuGated s (loadHalf ((s.reg rm).extractLsb' 0 16) s)

/-- `FMOV.S FRm, @(PC, R0)`: 45_fpu.md R526. -/
def execFmovStorePcR0 (rm : FReg) (s : State) : Res := notInSlot s (fpuBanked s (fpStore rm (eaPcR0Long s) done16 s))

/-- `FMOV.S @(PC, R0), FRn`: 45_fpu.md R527. -/
def execFmovLoadPcR0 (rn : FReg) (s : State) : Res := notInSlot s (fpuBanked s (fpLoad rn (eaPcR0Long s) done16 s))

/-- `FADD FRm, FRn`: 45_fpu.md R510. -/
def execFadd (rm : FReg) (rn : FReg) (s : State) : Res := fpuBanked s (arith FpFormat.add rn rm rn done16 s)

/-- `FSUB FRm, FRn`: 45_fpu.md R511. -/
def execFsub (rm : FReg) (rn : FReg) (s : State) : Res := fpuBanked s (arith FpFormat.sub rn rm rn done16 s)

/-- `FMUL FRm, FRn`: 45_fpu.md R512. -/
def execFmul (rm : FReg) (rn : FReg) (s : State) : Res := fpuBanked s (arith FpFormat.mul rn rm rn done16 s)

/-- `FDIV FRm, FRn`: 45_fpu.md R513. -/
def execFdiv (rm : FReg) (rn : FReg) (s : State) : Res := fpuBanked s (arith FpFormat.div rn rm rn done16 s)

/-- `FCMPEQ FRm, FRn`: 45_fpu.md R514. -/
def execFcmpEq (rm : FReg) (rn : FReg) (s : State) : Res := fpuBanked s (compare FpFormat.eq rn rm s)

/-- `FCMPGT FRm, FRn`: 45_fpu.md R515. -/
def execFcmpGt (rm : FReg) (rn : FReg) (s : State) : Res := fpuBanked s (compare FpFormat.gt rn rm s)

/-- `FMOV.S @(R0, Rm), FRn`: 45_fpu.md R523. -/
def execFmovLoadR0Idx (rm : Reg) (rn : FReg) (s : State) : Res :=
  fpuBanked s (fpLoad rn (s.reg 0 + s.reg rm) done16 s)

/-- `FMOV.S FRm, @(R0, Rn)`: 45_fpu.md R523. -/
def execFmovStoreR0Idx (rm : FReg) (rn : Reg) (s : State) : Res :=
  fpuBanked s (fpStore rm (s.reg 0 + s.reg rn) done16 s)

/-- `FMOV.S @Rm, FRn`: 45_fpu.md R523. -/
def execFmovLoadInd (rm : Reg) (rn : FReg) (s : State) : Res := fpuBanked s (fpLoad rn (s.reg rm) done16 s)

/-- `FMOV.S @Rm+, FRn`: 45_fpu.md R523. -/
def execFmovLoadPostInc (rm : Reg) (rn : FReg) (s : State) : Res :=
  fpuBanked s (fpLoad rn (s.reg rm) (fun t => done16 (t.setReg rm (s.reg rm + fpSize s))) s)

/-- `FMOV.S FRm, @Rn`: 45_fpu.md R523. -/
def execFmovStoreInd (rm : FReg) (rn : Reg) (s : State) : Res := fpuBanked s (fpStore rm (s.reg rn) done16 s)

/-- `FMOV.S FRm, @-Rn`: 45_fpu.md R523. -/
def execFmovStorePreDec (rm : FReg) (rn : Reg) (s : State) : Res :=
  fpuBanked s (fpStore rm (s.reg rn - fpSize s) (fun t => done16 (t.setReg rn (s.reg rn - fpSize s))) s)

/-- `FMOV FRm, FRn`: 45_fpu.md R521. -/
def execFmov (rm : FReg) (rn : FReg) (s : State) : Res := fpuBanked s (moveFp rm rn s)

/-- `FSTS FRn`: 45_fpu.md R530. -/
def execFsts (rn : FReg) (s : State) : Res := fpuBanked s (done16 (s.setFr rn s.fpul))

/-- `FLDS FRm`: 45_fpu.md R531. -/
def execFlds (rm : FReg) (s : State) : Res := fpuBanked s (done16 (s.setFpul (s.fr rm)))

/-- `FLOAT FRn`: 45_fpu.md R532. -/
def execFloat (rn : FReg) (s : State) : Res := fpuBanked s (intToFloat rn s)

/-- `FTRC FRm`: 45_fpu.md R533. -/
def execFtrc (rm : FReg) (s : State) : Res := fpuBanked s (floatToInt rm s)

/-- `FNEG FRn`: 45_fpu.md R516. -/
def execFneg (rn : FReg) (s : State) : Res := fpuBanked s (onSign (fun w => w ^^^ 0x80000000) rn s)

/-- `FABS FRn`: 45_fpu.md R517. -/
def execFabs (rn : FReg) (s : State) : Res := fpuBanked s (onSign (fun w => w &&& 0x7FFFFFFF) rn s)

/-- `FSQRT FRn`: 45_fpu.md R518. -/
def execFsqrt (rn : FReg) (s : State) : Res := fpuBanked s (squareRoot rn s)

/-- `FLDI0 FRn`: 45_fpu.md R534. -/
def execFldi0 (rn : FReg) (s : State) : Res := fpuBanked s (loadConstant 0 0 rn s)

/-- `FLDI1 FRn`: 45_fpu.md R535. -/
def execFldi1 (rn : FReg) (s : State) : Res := fpuBanked s (loadConstant 0x3F800000 0x3FF0000000000000 rn s)

/-- `FCNVSD FRn`: 45_fpu.md R536. -/
def execFcnvsd (rn : FReg) (s : State) : Res := fpuBanked s (singleToDouble rn s)

/-- `FCNVDS FRm`: 45_fpu.md R545. -/
def execFcnvds (rm : FReg) (s : State) : Res := fpuBanked s (doubleToSingle rm s)

/-- `PSETMD #imm4`: 45_fpu.md R540. -/
def execPsetmd (imm : BitVec 4) (s : State) : Res := fpuGated s (setFpMode imm s)

/-- `FSCHG`: 45_fpu.md R542. -/
def execFschg (s : State) : Res := fpuGated s (done16 (s.setFpscr (s.fpscr ^^^ 0x00100000)))

/-- `FPCHG`: 45_fpu.md R543. -/
def execFpchg (s : State) : Res := fpuGated s (done16 (s.setFpscr (s.fpscr ^^^ 0x00080000)))

/-- `FRCHG`: 45_fpu.md R544. -/
def execFrchg (s : State) : Res := fpuGated s (swapFpBanks s)

/-- `FMAC FRm, FRn`: 45_fpu.md R519. -/
def execFmac (rm : FReg) (rn : FReg) (s : State) : Res := fpuBanked s (multiplyAccumulate rm rn s)

/-- `FMOV.S FRm, @(Rn, disp8s)`: 45_fpu.md R528. -/
def execFmovStoreDisp8 (rm : FReg) (rn : Reg) (disp : BitVec 8) (s : State) : Res :=
  notInSlot s (fpuBanked s (fpStore rm (s.reg rn + sext disp * fpScale s) done32 s))

/-- `FMOV.S @(Rm, disp8s), FRn`: 45_fpu.md R528. -/
def execFmovLoadDisp8 (rm : Reg) (disp : BitVec 8) (rn : FReg) (s : State) : Res :=
  notInSlot s (fpuBanked s (fpLoad rn (s.reg rm + sext disp * fpScale s) done32 s))

/-- `FADD FRs, FRt, FRn`: 45_fpu.md R520. -/
def execFadd3 (rs : FReg) (rt : FReg) (rn : FReg) (s : State) : Res :=
  notInSlot s (fpuBanked s (arith FpFormat.add rs rt rn done32 s))

/-- `FSUB FRs, FRt, FRn`: 45_fpu.md R520. -/
def execFsub3 (rs : FReg) (rt : FReg) (rn : FReg) (s : State) : Res :=
  notInSlot s (fpuBanked s (arith FpFormat.sub rs rt rn done32 s))

/-- `FMUL FRs, FRt, FRn`: 45_fpu.md R520. -/
def execFmul3 (rs : FReg) (rt : FReg) (rn : FReg) (s : State) : Res :=
  notInSlot s (fpuBanked s (arith FpFormat.mul rs rt rn done32 s))

/-- `FDIV FRs, FRt, FRn`: 45_fpu.md R520. -/
def execFdiv3 (rs : FReg) (rt : FReg) (rn : FReg) (s : State) : Res :=
  notInSlot s (fpuBanked s (arith FpFormat.div rs rt rn done32 s))

/-- `FMOV.S @(Rm, Ro), FRn`: 45_fpu.md R529. -/
def execFmovLoadIdx (rm : Reg) (ro : Reg) (rn : FReg) (s : State) : Res :=
  notInSlot s (fpuBanked s (indexed ro (fpLoad rn (indexEa s (s.reg rm) ro 0 (fpScale s)) done32 s)))

/-- `FMOV.S FRm, @(Rn, Ro)`: 45_fpu.md R529. -/
def execFmovStoreIdx (rm : FReg) (rn : Reg) (ro : Reg) (s : State) : Res :=
  notInSlot s (fpuBanked s (indexed ro (fpStore rm (indexEa s (s.reg rn) ro 0 (fpScale s)) done32 s)))

/-- `LDHF16 #imm16, FPUL`: 45_fpu.md R537. -/
def execLdhf16Imm (imm : BitVec 16) (s : State) : Res := notInSlot s (fpuGated s (loadHalfImmediate imm s))

/-- `LDIF16 #imm16, FPUL`: 45_fpu.md R538. -/
def execLdif16 (imm : BitVec 16) (s : State) : Res := notInSlot s (fpuGated s (done32 (s.setFpul (zext imm <<< 16))))

end Sys2Proof.Machine
end

