-- ==== Sys2Proof/Machine/LogicShift.lean ====
section
/-! DEFINITION. The logic, rotate and shift instructions of 42_logic_shift.md. None accesses memory; T is written only
where the rule says so. -/

namespace Sys2Proof.Machine

/-- The extension of a 12-bit immediate, by the parameter that decides it (30_encoding.md R133). -/
def extImm12 (signed : Bool) (imm : BitVec 12) : Word := if signed then sext imm else zext imm

/-! ### The instructions -/

/-- `TST Rm, Rn`: 42_logic_shift.md R357. -/
def execTst (rm : Reg) (rn : Reg) (s : State) : Res := toT16 (s.reg rn &&& s.reg rm == 0) s

/-- `AND Rm, Rn`: 42_logic_shift.md R350. -/
def execAnd (rm : Reg) (rn : Reg) (s : State) : Res := toReg16 rn (s.reg rn &&& s.reg rm) s

/-- `XOR Rm, Rn`: 42_logic_shift.md R359. -/
def execXor (rm : Reg) (rn : Reg) (s : State) : Res := toReg16 rn (s.reg rn ^^^ s.reg rm) s

/-- `OR Rm, Rn`: 42_logic_shift.md R354. -/
def execOr (rm : Reg) (rn : Reg) (s : State) : Res := toReg16 rn (s.reg rn ||| s.reg rm) s

/-- `SHLL Rn`: 42_logic_shift.md R370. -/
def execShll (rn : Reg) (s : State) : Res := toRegT16 rn (s.reg rn <<< 1) (s.reg rn).msb s

/-- `SHAL Rn`: 42_logic_shift.md R368. -/
def execShal (rn : Reg) (s : State) : Res := toRegT16 rn (s.reg rn <<< 1) (s.reg rn).msb s

/-- `SHLR Rn`: 42_logic_shift.md R376. -/
def execShlr (rn : Reg) (s : State) : Res := toRegT16 rn (s.reg rn >>> 1) ((s.reg rn).getLsbD 0) s

/-- `SHAR Rn`: 42_logic_shift.md R369. -/
def execShar (rn : Reg) (s : State) : Res := toRegT16 rn ((s.reg rn).sshiftRight 1) ((s.reg rn).getLsbD 0) s

/-- `ROTL Rn`: 42_logic_shift.md R365. -/
def execRotl (rn : Reg) (s : State) : Res := toRegT16 rn ((s.reg rn <<< 1) ||| bit (s.reg rn).msb) (s.reg rn).msb s

/-- `ROTCL Rn`: 42_logic_shift.md R363. -/
def execRotcl (rn : Reg) (s : State) : Res := toRegT16 rn ((s.reg rn <<< 1) ||| bit s.t) (s.reg rn).msb s

/-- `SHLL4 Rn`: 42_logic_shift.md R372. -/
def execShll4 (rn : Reg) (s : State) : Res := toReg16 rn (s.reg rn <<< 4) s

/-- `ROTR Rn`: 42_logic_shift.md R366. -/
def execRotr (rn : Reg) (s : State) : Res :=
  toRegT16 rn ((bit ((s.reg rn).getLsbD 0) <<< 31) ||| (s.reg rn >>> 1)) ((s.reg rn).getLsbD 0) s

/-- `ROTCR Rn`: 42_logic_shift.md R364. -/
def execRotcr (rn : Reg) (s : State) : Res :=
  toRegT16 rn ((bit s.t <<< 31) ||| (s.reg rn >>> 1)) ((s.reg rn).getLsbD 0) s

/-- `SHLR4 Rn`: 42_logic_shift.md R378. -/
def execShlr4 (rn : Reg) (s : State) : Res := toReg16 rn (s.reg rn >>> 4) s

/-- `SHLL2 Rn`: 42_logic_shift.md R371. -/
def execShll2 (rn : Reg) (s : State) : Res := toReg16 rn (s.reg rn <<< 2) s

/-- `SHLL8 Rn`: 42_logic_shift.md R373. -/
def execShll8 (rn : Reg) (s : State) : Res := toReg16 rn (s.reg rn <<< 8) s

/-- `SHLL16 Rn`: 42_logic_shift.md R374. -/
def execShll16 (rn : Reg) (s : State) : Res := toReg16 rn (s.reg rn <<< 16) s

/-- `SHLR2 Rn`: 42_logic_shift.md R377. -/
def execShlr2 (rn : Reg) (s : State) : Res := toReg16 rn (s.reg rn >>> 2) s

/-- `SHLR8 Rn`: 42_logic_shift.md R379. -/
def execShlr8 (rn : Reg) (s : State) : Res := toReg16 rn (s.reg rn >>> 8) s

/-- `SHLR16 Rn`: 42_logic_shift.md R380. -/
def execShlr16 (rn : Reg) (s : State) : Res := toReg16 rn (s.reg rn >>> 16) s

/-- `SHAD Rm, Rn`: 42_logic_shift.md R367. -/
def execShad (rm : Reg) (rn : Reg) (s : State) : Res := toReg16 rn (shad (s.reg rn) (s.reg rm)) s

/-- `SHLD Rm, Rn`: 42_logic_shift.md R375. -/
def execShld (rm : Reg) (rn : Reg) (s : State) : Res := toReg16 rn (shld (s.reg rn) (s.reg rm)) s

/-- `NOT Rm, Rn`: 42_logic_shift.md R353. -/
def execNot (rm : Reg) (rn : Reg) (s : State) : Res := toReg16 rn (~~~(s.reg rm)) s

/-- `TST #imm8, R0`: 42_logic_shift.md R358. -/
def execTstImm8 (imm : BitVec 8) (s : State) : Res := toT16 (s.reg 0 &&& zext imm == 0) s

/-- `AND #imm8, R0`: 42_logic_shift.md R351. -/
def execAndImm8 (imm : BitVec 8) (s : State) : Res := toReg16 0 (s.reg 0 &&& zext imm) s

/-- `XOR #imm8, R0`: 42_logic_shift.md R360. -/
def execXorImm8 (imm : BitVec 8) (s : State) : Res := toReg16 0 (s.reg 0 ^^^ zext imm) s

/-- `OR #imm8, R0`: 42_logic_shift.md R355. -/
def execOrImm8 (imm : BitVec 8) (s : State) : Res := toReg16 0 (s.reg 0 ||| zext imm) s

/-- `AND Rm, #imm8, Rn`: 42_logic_shift.md R352. -/
def execAnd3Imm8 (rm : Reg) (imm : BitVec 8) (rn : Reg) (s : State) : Res := toReg32 rn (s.reg rm &&& zext imm) s

/-- `XOR Rm, #imm8, Rn`: 42_logic_shift.md R361. -/
def execXor3Imm8 (rm : Reg) (imm : BitVec 8) (rn : Reg) (s : State) : Res := toReg32 rn (s.reg rm ^^^ zext imm) s

/-- `OR Rm, #imm8, Rn`: 42_logic_shift.md R356. -/
def execOr3Imm8 (rm : Reg) (imm : BitVec 8) (rn : Reg) (s : State) : Res := toReg32 rn (s.reg rm ||| zext imm) s

/-- `AND Rm, #-imm8, Rn`: 42_logic_shift.md R352. -/
def execAnd3NegImm8 (rm : Reg) (imm : BitVec 8) (rn : Reg) (s : State) : Res :=
  toReg32 rn (s.reg rm &&& onesExt imm) s

/-- `AND Rs, Rt, Rn`: 42_logic_shift.md R352. -/
def execAnd3 (rs : Reg) (rt : Reg) (rn : Reg) (s : State) : Res := toReg32 rn (s.reg rs &&& s.reg rt) s

/-- `OR Rs, Rt, Rn`: 42_logic_shift.md R356. -/
def execOr3 (rs : Reg) (rt : Reg) (rn : Reg) (s : State) : Res := toReg32 rn (s.reg rs ||| s.reg rt) s

/-- `XOR Rs, Rt, Rn`: 42_logic_shift.md R361. -/
def execXor3 (rs : Reg) (rt : Reg) (rn : Reg) (s : State) : Res := toReg32 rn (s.reg rs ^^^ s.reg rt) s

/-- `SHLD Rs, Rt, Rn`: 42_logic_shift.md R382. -/
def execShld3 (rs : Reg) (rt : Reg) (rn : Reg) (s : State) : Res := toReg32 rn (shld (s.reg rs) (s.reg rt)) s

/-- `SHLR Rs, Rt, Rn`: 42_logic_shift.md R383. -/
def execShlr3 (rs : Reg) (rt : Reg) (rn : Reg) (s : State) : Res := toReg32 rn (shld (s.reg rs) (0 - s.reg rt)) s

/-- `SHAD Rs, Rt, Rn`: 42_logic_shift.md R381. -/
def execShad3 (rs : Reg) (rt : Reg) (rn : Reg) (s : State) : Res := toReg32 rn (shad (s.reg rs) (s.reg rt)) s

/-- `SHAR Rs, Rt, Rn`: 42_logic_shift.md R384. -/
def execShar3 (rs : Reg) (rt : Reg) (rn : Reg) (s : State) : Res := toReg32 rn (shad (s.reg rs) (0 - s.reg rt)) s

/-- `SHAD Rm, #imm8s, Rn`: 42_logic_shift.md R381. -/
def execShad3Imm8 (rm : Reg) (imm : BitVec 8) (rn : Reg) (s : State) : Res :=
  toReg32 rn (shad (s.reg rm) (sext imm)) s

/-- `SHLD Rm, #imm8s, Rn`: 42_logic_shift.md R382. -/
def execShld3Imm8 (rm : Reg) (imm : BitVec 8) (rn : Reg) (s : State) : Res :=
  toReg32 rn (shld (s.reg rm) (sext imm)) s

/-- `TST #imm12, Rn`: 42_logic_shift.md R358. -/
def execTstImm12 (imm : BitVec 12) (rn : Reg) (s : State) : Res :=
  toT32 (s.reg rn &&& extImm12 s.cfg.imm12TstSigned imm == 0) s

/-- `AND #imm12s, Rn`: 42_logic_shift.md R351. -/
def execAndImm12 (imm : BitVec 12) (rn : Reg) (s : State) : Res := toReg32 rn (s.reg rn &&& sext imm) s

/-- `XOR #imm12, Rn`: 42_logic_shift.md R360. -/
def execXorImm12 (imm : BitVec 12) (rn : Reg) (s : State) : Res := toReg32 rn (s.reg rn ^^^ zext imm) s

/-- `OR #imm12, Rn`: 42_logic_shift.md R355. -/
def execOrImm12 (imm : BitVec 12) (rn : Reg) (s : State) : Res :=
  toReg32 rn (s.reg rn ||| extImm12 s.cfg.imm12OrSigned imm) s

end Sys2Proof.Machine
end

