-- ==== Sys2Proof/Machine/Dispatch.lean ====
section
/-! DEFINITION. What each instruction does: one arm for each constructor, each one direct call of its meaning. -/

namespace Sys2Proof.Machine

def exec (i : Instr) (s : State) : Host.Outcome State Fault Refusal :=
  match i with
  | .stcSr rn => Sys2Proof.Machine.execStcSr rn s
  | .stcGbr rn => Sys2Proof.Machine.execStcGbr rn s
  | .stcVbr rn => Sys2Proof.Machine.execStcVbr rn s
  | .stcSsr rn => Sys2Proof.Machine.execStcSsr rn s
  | .stcSpc rn => Sys2Proof.Machine.execStcSpc rn s
  | .stcBank b rn => Sys2Proof.Machine.execStcBank b rn s
  | .bsrf rm => Sys2Proof.Machine.execBsrf rm s
  | .braf rm => Sys2Proof.Machine.execBraf rm s
  | .pref rn => Sys2Proof.Machine.execPref rn s
  | .movcaL rn => Sys2Proof.Machine.execMovcaL rn s
  | .icbi rn => Sys2Proof.Machine.execIcbi rn s
  | .movBStoreR0Idx rm rn => Sys2Proof.Machine.execMovBStoreR0Idx rm rn s
  | .movWStoreR0Idx rm rn => Sys2Proof.Machine.execMovWStoreR0Idx rm rn s
  | .movLStoreR0Idx rm rn => Sys2Proof.Machine.execMovLStoreR0Idx rm rn s
  | .mulL rm rn => Sys2Proof.Machine.execMulL rm rn s
  | .clrt => Sys2Proof.Machine.execClrt s
  | .sett => Sys2Proof.Machine.execSett s
  | .clrmac => Sys2Proof.Machine.execClrmac s
  | .ldtlb => Sys2Proof.Machine.execLdtlb s
  | .clrs => Sys2Proof.Machine.execClrs s
  | .sets => Sys2Proof.Machine.execSets s
  | .nott => Sys2Proof.Machine.execNott s
  | .nop imm => Sys2Proof.Machine.execNop imm s
  | .div0u => Sys2Proof.Machine.execDiv0u s
  | .movt rn => Sys2Proof.Machine.execMovt rn s
  | .movrt rn => Sys2Proof.Machine.execMovrt rn s
  | .stsMach rn => Sys2Proof.Machine.execStsMach rn s
  | .stsMacl rn => Sys2Proof.Machine.execStsMacl rn s
  | .stsPr rn => Sys2Proof.Machine.execStsPr rn s
  | .stcSgr rn => Sys2Proof.Machine.execStcSgr rn s
  | .stsFpul rn => Sys2Proof.Machine.execStsFpul rn s
  | .stsFpscr rn => Sys2Proof.Machine.execStsFpscr rn s
  | .stcDbr rn => Sys2Proof.Machine.execStcDbr rn s
  | .rts => Sys2Proof.Machine.execRts s
  | .sleep => Sys2Proof.Machine.execSleep s
  | .rte => Sys2Proof.Machine.execRte s
  | .brk => Sys2Proof.Machine.execBrk s
  | .rtsN => Sys2Proof.Machine.execRtsN s
  | .movBLoadR0Idx rm rn => Sys2Proof.Machine.execMovBLoadR0Idx rm rn s
  | .movWLoadR0Idx rm rn => Sys2Proof.Machine.execMovWLoadR0Idx rm rn s
  | .movLLoadR0Idx rm rn => Sys2Proof.Machine.execMovLLoadR0Idx rm rn s
  | .movLStoreDisp4 rm rn disp => Sys2Proof.Machine.execMovLStoreDisp4 rm rn disp s
  | .movBStoreInd rm rn => Sys2Proof.Machine.execMovBStoreInd rm rn s
  | .movWStoreInd rm rn => Sys2Proof.Machine.execMovWStoreInd rm rn s
  | .movLStoreInd rm rn => Sys2Proof.Machine.execMovLStoreInd rm rn s
  | .casL rm rn => Sys2Proof.Machine.execCasL rm rn s
  | .movBStorePreDec rm rn => Sys2Proof.Machine.execMovBStorePreDec rm rn s
  | .movWStorePreDec rm rn => Sys2Proof.Machine.execMovWStorePreDec rm rn s
  | .movLStorePreDec rm rn => Sys2Proof.Machine.execMovLStorePreDec rm rn s
  | .div0s rm rn => Sys2Proof.Machine.execDiv0s rm rn s
  | .tst rm rn => Sys2Proof.Machine.execTst rm rn s
  | .and rm rn => Sys2Proof.Machine.execAnd rm rn s
  | .xor rm rn => Sys2Proof.Machine.execXor rm rn s
  | .or rm rn => Sys2Proof.Machine.execOr rm rn s
  | .cmpStr rm rn => Sys2Proof.Machine.execCmpStr rm rn s
  | .xtrct rm rn => Sys2Proof.Machine.execXtrct rm rn s
  | .muluW rm rn => Sys2Proof.Machine.execMuluW rm rn s
  | .mulsW rm rn => Sys2Proof.Machine.execMulsW rm rn s
  | .cmpEq rm rn => Sys2Proof.Machine.execCmpEq rm rn s
  | .cmpHs rm rn => Sys2Proof.Machine.execCmpHs rm rn s
  | .cmpGe rm rn => Sys2Proof.Machine.execCmpGe rm rn s
  | .div1 rm rn => Sys2Proof.Machine.execDiv1 rm rn s
  | .dmuluL rm rn => Sys2Proof.Machine.execDmuluL rm rn s
  | .cmpHi rm rn => Sys2Proof.Machine.execCmpHi rm rn s
  | .cmpGt rm rn => Sys2Proof.Machine.execCmpGt rm rn s
  | .sub rm rn => Sys2Proof.Machine.execSub rm rn s
  | .subc rm rn => Sys2Proof.Machine.execSubc rm rn s
  | .subv rm rn => Sys2Proof.Machine.execSubv rm rn s
  | .add rm rn => Sys2Proof.Machine.execAdd rm rn s
  | .dmulsL rm rn => Sys2Proof.Machine.execDmulsL rm rn s
  | .addc rm rn => Sys2Proof.Machine.execAddc rm rn s
  | .addv rm rn => Sys2Proof.Machine.execAddv rm rn s
  | .shll rn => Sys2Proof.Machine.execShll rn s
  | .dt rn => Sys2Proof.Machine.execDt rn s
  | .shal rn => Sys2Proof.Machine.execShal rn s
  | .shlr rn => Sys2Proof.Machine.execShlr rn s
  | .cmpPz rn => Sys2Proof.Machine.execCmpPz rn s
  | .shar rn => Sys2Proof.Machine.execShar rn s
  | .sthf16 rn => Sys2Proof.Machine.execSthf16 rn s
  | .ldhf16 rm => Sys2Proof.Machine.execLdhf16 rm s
  | .fmovStorePcR0 rm => Sys2Proof.Machine.execFmovStorePcR0 rm s
  | .movBStorePcR0 rm => Sys2Proof.Machine.execMovBStorePcR0 rm s
  | .movWStorePcR0 rm => Sys2Proof.Machine.execMovWStorePcR0 rm s
  | .movLStorePcR0 rm => Sys2Proof.Machine.execMovLStorePcR0 rm s
  | .stslMach rn => Sys2Proof.Machine.execStslMach rn s
  | .stslMacl rn => Sys2Proof.Machine.execStslMacl rn s
  | .stslPr rn => Sys2Proof.Machine.execStslPr rn s
  | .stclSgr rn => Sys2Proof.Machine.execStclSgr rn s
  | .stslFpul rn => Sys2Proof.Machine.execStslFpul rn s
  | .stslFpscr rn => Sys2Proof.Machine.execStslFpscr rn s
  | .stclDbr rn => Sys2Proof.Machine.execStclDbr rn s
  | .stclSr rn => Sys2Proof.Machine.execStclSr rn s
  | .stclGbr rn => Sys2Proof.Machine.execStclGbr rn s
  | .stclVbr rn => Sys2Proof.Machine.execStclVbr rn s
  | .stclSsr rn => Sys2Proof.Machine.execStclSsr rn s
  | .stclSpc rn => Sys2Proof.Machine.execStclSpc rn s
  | .stclBank b rn => Sys2Proof.Machine.execStclBank b rn s
  | .rotl rn => Sys2Proof.Machine.execRotl rn s
  | .rotcl rn => Sys2Proof.Machine.execRotcl rn s
  | .shll4 rn => Sys2Proof.Machine.execShll4 rn s
  | .rotr rn => Sys2Proof.Machine.execRotr rn s
  | .cmpPl rn => Sys2Proof.Machine.execCmpPl rn s
  | .rotcr rn => Sys2Proof.Machine.execRotcr rn s
  | .shlr4 rn => Sys2Proof.Machine.execShlr4 rn s
  | .fmovLoadPcR0 rn => Sys2Proof.Machine.execFmovLoadPcR0 rn s
  | .movBLoadPcR0 rn => Sys2Proof.Machine.execMovBLoadPcR0 rn s
  | .movWLoadPcR0 rn => Sys2Proof.Machine.execMovWLoadPcR0 rn s
  | .movLLoadPcR0 rn => Sys2Proof.Machine.execMovLLoadPcR0 rn s
  | .leaBPcR0 rn => Sys2Proof.Machine.execLeaBPcR0 rn s
  | .ldslMach rm => Sys2Proof.Machine.execLdslMach rm s
  | .ldslMacl rm => Sys2Proof.Machine.execLdslMacl rm s
  | .ldslPr rm => Sys2Proof.Machine.execLdslPr rm s
  | .ldclSgr rm => Sys2Proof.Machine.execLdclSgr rm s
  | .ldslFpul rm => Sys2Proof.Machine.execLdslFpul rm s
  | .ldslFpscr rm => Sys2Proof.Machine.execLdslFpscr rm s
  | .ldclDbr rm => Sys2Proof.Machine.execLdclDbr rm s
  | .ldclSr rm => Sys2Proof.Machine.execLdclSr rm s
  | .ldclGbr rm => Sys2Proof.Machine.execLdclGbr rm s
  | .ldclVbr rm => Sys2Proof.Machine.execLdclVbr rm s
  | .ldclSsr rm => Sys2Proof.Machine.execLdclSsr rm s
  | .ldclSpc rm => Sys2Proof.Machine.execLdclSpc rm s
  | .ldclBank rm b => Sys2Proof.Machine.execLdclBank rm b s
  | .shll2 rn => Sys2Proof.Machine.execShll2 rn s
  | .shll8 rn => Sys2Proof.Machine.execShll8 rn s
  | .shll16 rn => Sys2Proof.Machine.execShll16 rn s
  | .shlr2 rn => Sys2Proof.Machine.execShlr2 rn s
  | .shlr8 rn => Sys2Proof.Machine.execShlr8 rn s
  | .shlr16 rn => Sys2Proof.Machine.execShlr16 rn s
  | .ldsMach rm => Sys2Proof.Machine.execLdsMach rm s
  | .ldsMacl rm => Sys2Proof.Machine.execLdsMacl rm s
  | .ldsPr rm => Sys2Proof.Machine.execLdsPr rm s
  | .ldcSgr rm => Sys2Proof.Machine.execLdcSgr rm s
  | .ldsFpul rm => Sys2Proof.Machine.execLdsFpul rm s
  | .ldsFpscr rm => Sys2Proof.Machine.execLdsFpscr rm s
  | .ldcDbr rm => Sys2Proof.Machine.execLdcDbr rm s
  | .jsr rm => Sys2Proof.Machine.execJsr rm s
  | .jmp rm => Sys2Proof.Machine.execJmp rm s
  | .jsrN rm => Sys2Proof.Machine.execJsrN rm s
  | .movBStoreR0PostInc rn => Sys2Proof.Machine.execMovBStoreR0PostInc rn s
  | .movWStoreR0PostInc rn => Sys2Proof.Machine.execMovWStoreR0PostInc rn s
  | .movLStoreR0PostInc rn => Sys2Proof.Machine.execMovLStoreR0PostInc rn s
  | .movBLoadR0PreDec rm => Sys2Proof.Machine.execMovBLoadR0PreDec rm s
  | .movWLoadR0PreDec rm => Sys2Proof.Machine.execMovWLoadR0PreDec rm s
  | .movLLoadR0PreDec rm => Sys2Proof.Machine.execMovLLoadR0PreDec rm s
  | .shad rm rn => Sys2Proof.Machine.execShad rm rn s
  | .shld rm rn => Sys2Proof.Machine.execShld rm rn s
  | .ldcSr rm => Sys2Proof.Machine.execLdcSr rm s
  | .ldcGbr rm => Sys2Proof.Machine.execLdcGbr rm s
  | .ldcVbr rm => Sys2Proof.Machine.execLdcVbr rm s
  | .ldcSsr rm => Sys2Proof.Machine.execLdcSsr rm s
  | .ldcSpc rm => Sys2Proof.Machine.execLdcSpc rm s
  | .ldcBank rm b => Sys2Proof.Machine.execLdcBank rm b s
  | .movLLoadDisp4 rm disp rn => Sys2Proof.Machine.execMovLLoadDisp4 rm disp rn s
  | .movBLoadInd rm rn => Sys2Proof.Machine.execMovBLoadInd rm rn s
  | .movWLoadInd rm rn => Sys2Proof.Machine.execMovWLoadInd rm rn s
  | .movLLoadInd rm rn => Sys2Proof.Machine.execMovLLoadInd rm rn s
  | .mov rm rn => Sys2Proof.Machine.execMov rm rn s
  | .movBLoadPostInc rm rn => Sys2Proof.Machine.execMovBLoadPostInc rm rn s
  | .movWLoadPostInc rm rn => Sys2Proof.Machine.execMovWLoadPostInc rm rn s
  | .movLLoadPostInc rm rn => Sys2Proof.Machine.execMovLLoadPostInc rm rn s
  | .not rm rn => Sys2Proof.Machine.execNot rm rn s
  | .swapB rm rn => Sys2Proof.Machine.execSwapB rm rn s
  | .swapW rm rn => Sys2Proof.Machine.execSwapW rm rn s
  | .negc rm rn => Sys2Proof.Machine.execNegc rm rn s
  | .neg rm rn => Sys2Proof.Machine.execNeg rm rn s
  | .extuB rm rn => Sys2Proof.Machine.execExtuB rm rn s
  | .extuW rm rn => Sys2Proof.Machine.execExtuW rm rn s
  | .extsB rm rn => Sys2Proof.Machine.execExtsB rm rn s
  | .extsW rm rn => Sys2Proof.Machine.execExtsW rm rn s
  | .addImm8 imm rn => Sys2Proof.Machine.execAddImm8 imm rn s
  | .movBStoreR0Disp4 rn disp => Sys2Proof.Machine.execMovBStoreR0Disp4 rn disp s
  | .movWStoreR0Disp4 rn disp => Sys2Proof.Machine.execMovWStoreR0Disp4 rn disp s
  | .braN8 label => Sys2Proof.Machine.execBraN8 label s
  | .movBLoadR0Disp4 rm disp => Sys2Proof.Machine.execMovBLoadR0Disp4 rm disp s
  | .movWLoadR0Disp4 rm disp => Sys2Proof.Machine.execMovWLoadR0Disp4 rm disp s
  | .cmpEqImm8 imm => Sys2Proof.Machine.execCmpEqImm8 imm s
  | .bt8 label => Sys2Proof.Machine.execBt8 label s
  | .movi24 imm => Sys2Proof.Machine.execMovi24 imm s
  | .bf8 label => Sys2Proof.Machine.execBf8 label s
  | .btS8 label => Sys2Proof.Machine.execBtS8 label s
  | .bfS8 label => Sys2Proof.Machine.execBfS8 label s
  | .movWLoadPcDisp disp rn => Sys2Proof.Machine.execMovWLoadPcDisp disp rn s
  | .bra label => Sys2Proof.Machine.execBra label s
  | .bsr label => Sys2Proof.Machine.execBsr label s
  | .movBStoreGbr8 disp => Sys2Proof.Machine.execMovBStoreGbr8 disp s
  | .movWStoreGbr8 disp => Sys2Proof.Machine.execMovWStoreGbr8 disp s
  | .movLStoreGbr8 disp => Sys2Proof.Machine.execMovLStoreGbr8 disp s
  | .trapa imm => Sys2Proof.Machine.execTrapa imm s
  | .movBLoadGbr8 disp => Sys2Proof.Machine.execMovBLoadGbr8 disp s
  | .movWLoadGbr8 disp => Sys2Proof.Machine.execMovWLoadGbr8 disp s
  | .movLLoadGbr8 disp => Sys2Proof.Machine.execMovLLoadGbr8 disp s
  | .mova disp => Sys2Proof.Machine.execMova disp s
  | .tstImm8 imm => Sys2Proof.Machine.execTstImm8 imm s
  | .andImm8 imm => Sys2Proof.Machine.execAndImm8 imm s
  | .xorImm8 imm => Sys2Proof.Machine.execXorImm8 imm s
  | .orImm8 imm => Sys2Proof.Machine.execOrImm8 imm s
  | .movLLoadPcDisp disp rn => Sys2Proof.Machine.execMovLLoadPcDisp disp rn s
  | .movImm8 imm rn => Sys2Proof.Machine.execMovImm8 imm rn s
  | .fadd rm rn => Sys2Proof.Machine.execFadd rm rn s
  | .fsub rm rn => Sys2Proof.Machine.execFsub rm rn s
  | .fmul rm rn => Sys2Proof.Machine.execFmul rm rn s
  | .fdiv rm rn => Sys2Proof.Machine.execFdiv rm rn s
  | .fcmpEq rm rn => Sys2Proof.Machine.execFcmpEq rm rn s
  | .fcmpGt rm rn => Sys2Proof.Machine.execFcmpGt rm rn s
  | .fmovLoadR0Idx rm rn => Sys2Proof.Machine.execFmovLoadR0Idx rm rn s
  | .fmovStoreR0Idx rm rn => Sys2Proof.Machine.execFmovStoreR0Idx rm rn s
  | .fmovLoadInd rm rn => Sys2Proof.Machine.execFmovLoadInd rm rn s
  | .fmovLoadPostInc rm rn => Sys2Proof.Machine.execFmovLoadPostInc rm rn s
  | .fmovStoreInd rm rn => Sys2Proof.Machine.execFmovStoreInd rm rn s
  | .fmovStorePreDec rm rn => Sys2Proof.Machine.execFmovStorePreDec rm rn s
  | .fmov rm rn => Sys2Proof.Machine.execFmov rm rn s
  | .fsts rn => Sys2Proof.Machine.execFsts rn s
  | .flds rm => Sys2Proof.Machine.execFlds rm s
  | .float rn => Sys2Proof.Machine.execFloat rn s
  | .ftrc rm => Sys2Proof.Machine.execFtrc rm s
  | .fneg rn => Sys2Proof.Machine.execFneg rn s
  | .fabs rn => Sys2Proof.Machine.execFabs rn s
  | .fsqrt rn => Sys2Proof.Machine.execFsqrt rn s
  | .fldi0 rn => Sys2Proof.Machine.execFldi0 rn s
  | .fldi1 rn => Sys2Proof.Machine.execFldi1 rn s
  | .fcnvsd rn => Sys2Proof.Machine.execFcnvsd rn s
  | .fcnvds rm => Sys2Proof.Machine.execFcnvds rm s
  | .psetmd imm => Sys2Proof.Machine.execPsetmd imm s
  | .fschg => Sys2Proof.Machine.execFschg s
  | .fpchg => Sys2Proof.Machine.execFpchg s
  | .frchg => Sys2Proof.Machine.execFrchg s
  | .fmac rm rn => Sys2Proof.Machine.execFmac rm rn s
  | .movBStoreIdx4 rm rn ro disp => Sys2Proof.Machine.execMovBStoreIdx4 rm rn ro disp s
  | .movWStoreIdx4 rm rn ro disp => Sys2Proof.Machine.execMovWStoreIdx4 rm rn ro disp s
  | .movLStoreIdx4 rm rn ro disp => Sys2Proof.Machine.execMovLStoreIdx4 rm rn ro disp s
  | .movBLoadIdx4 rm ro disp rn => Sys2Proof.Machine.execMovBLoadIdx4 rm ro disp rn s
  | .movWLoadIdx4 rm ro disp rn => Sys2Proof.Machine.execMovWLoadIdx4 rm ro disp rn s
  | .movLLoadIdx4 rm ro disp rn => Sys2Proof.Machine.execMovLLoadIdx4 rm ro disp rn s
  | .movLStoreIdx8 rm rn ro disp => Sys2Proof.Machine.execMovLStoreIdx8 rm rn ro disp s
  | .movBStoreDisp8 rm rn disp => Sys2Proof.Machine.execMovBStoreDisp8 rm rn disp s
  | .movWStoreDisp8 rm rn disp => Sys2Proof.Machine.execMovWStoreDisp8 rm rn disp s
  | .movLStoreDisp8 rm rn disp => Sys2Proof.Machine.execMovLStoreDisp8 rm rn disp s
  | .fmovStoreDisp8 rm rn disp => Sys2Proof.Machine.execFmovStoreDisp8 rm rn disp s
  | .fmovLoadDisp8 rm disp rn => Sys2Proof.Machine.execFmovLoadDisp8 rm disp rn s
  | .and3Imm8 rm imm rn => Sys2Proof.Machine.execAnd3Imm8 rm imm rn s
  | .xor3Imm8 rm imm rn => Sys2Proof.Machine.execXor3Imm8 rm imm rn s
  | .or3Imm8 rm imm rn => Sys2Proof.Machine.execOr3Imm8 rm imm rn s
  | .mul3Imm8 rm imm rn => Sys2Proof.Machine.execMul3Imm8 rm imm rn s
  | .mul3NegImm8 rm imm rn => Sys2Proof.Machine.execMul3NegImm8 rm imm rn s
  | .cmpEqImm12 imm rn => Sys2Proof.Machine.execCmpEqImm12 imm rn s
  | .cmpHsImm12 imm rn => Sys2Proof.Machine.execCmpHsImm12 imm rn s
  | .cmpGeImm12 imm rn => Sys2Proof.Machine.execCmpGeImm12 imm rn s
  | .cmpHiImm12 imm rn => Sys2Proof.Machine.execCmpHiImm12 imm rn s
  | .cmpGtImm12 imm rn => Sys2Proof.Machine.execCmpGtImm12 imm rn s
  | .sub3Imm8 rm imm rn => Sys2Proof.Machine.execSub3Imm8 rm imm rn s
  | .and3NegImm8 rm imm rn => Sys2Proof.Machine.execAnd3NegImm8 rm imm rn s
  | .add3Imm8 rm imm rn => Sys2Proof.Machine.execAdd3Imm8 rm imm rn s
  | .add3 rs rt rn => Sys2Proof.Machine.execAdd3 rs rt rn s
  | .sub3 rs rt rn => Sys2Proof.Machine.execSub3 rs rt rn s
  | .mul3 rs rt rn => Sys2Proof.Machine.execMul3 rs rt rn s
  | .and3 rs rt rn => Sys2Proof.Machine.execAnd3 rs rt rn s
  | .or3 rs rt rn => Sys2Proof.Machine.execOr3 rs rt rn s
  | .xor3 rs rt rn => Sys2Proof.Machine.execXor3 rs rt rn s
  | .shld3 rs rt rn => Sys2Proof.Machine.execShld3 rs rt rn s
  | .shlr3 rs rt rn => Sys2Proof.Machine.execShlr3 rs rt rn s
  | .shad3 rs rt rn => Sys2Proof.Machine.execShad3 rs rt rn s
  | .shar3 rs rt rn => Sys2Proof.Machine.execShar3 rs rt rn s
  | .cselt rs rt rn => Sys2Proof.Machine.execCselt rs rt rn s
  | .fadd3 rs rt rn => Sys2Proof.Machine.execFadd3 rs rt rn s
  | .fsub3 rs rt rn => Sys2Proof.Machine.execFsub3 rs rt rn s
  | .fmul3 rs rt rn => Sys2Proof.Machine.execFmul3 rs rt rn s
  | .fdiv3 rs rt rn => Sys2Proof.Machine.execFdiv3 rs rt rn s
  | .shad3Imm8 rm imm rn => Sys2Proof.Machine.execShad3Imm8 rm imm rn s
  | .shld3Imm8 rm imm rn => Sys2Proof.Machine.execShld3Imm8 rm imm rn s
  | .movuBLoadIdx rm ro rn => Sys2Proof.Machine.execMovuBLoadIdx rm ro rn s
  | .movuWLoadIdx rm ro rn => Sys2Proof.Machine.execMovuWLoadIdx rm ro rn s
  | .fmovLoadIdx rm ro rn => Sys2Proof.Machine.execFmovLoadIdx rm ro rn s
  | .fmovStoreIdx rm rn ro => Sys2Proof.Machine.execFmovStoreIdx rm rn ro s
  | .movLLoadIdx8 rm ro disp rn => Sys2Proof.Machine.execMovLLoadIdx8 rm ro disp rn s
  | .movBLoadDisp8 rm disp rn => Sys2Proof.Machine.execMovBLoadDisp8 rm disp rn s
  | .movWLoadDisp8 rm disp rn => Sys2Proof.Machine.execMovWLoadDisp8 rm disp rn s
  | .movLLoadDisp8 rm disp rn => Sys2Proof.Machine.execMovLLoadDisp8 rm disp rn s
  | .leaBIdx4 rm ro disp rn => Sys2Proof.Machine.execLeaBIdx4 rm ro disp rn s
  | .leaWIdx4 rm ro disp rn => Sys2Proof.Machine.execLeaWIdx4 rm ro disp rn s
  | .leaLIdx4 rm ro disp rn => Sys2Proof.Machine.execLeaLIdx4 rm ro disp rn s
  | .leaQIdx4 rm ro disp rn => Sys2Proof.Machine.execLeaQIdx4 rm ro disp rn s
  | .leaBDisp8 rm disp rn => Sys2Proof.Machine.execLeaBDisp8 rm disp rn s
  | .leaWDisp8 rm disp rn => Sys2Proof.Machine.execLeaWDisp8 rm disp rn s
  | .leaLDisp8 rm disp rn => Sys2Proof.Machine.execLeaLDisp8 rm disp rn s
  | .leaQDisp8 rm disp rn => Sys2Proof.Machine.execLeaQDisp8 rm disp rn s
  | .movuBLoadDisp8 rm disp rn => Sys2Proof.Machine.execMovuBLoadDisp8 rm disp rn s
  | .movuWLoadDisp8 rm disp rn => Sys2Proof.Machine.execMovuWLoadDisp8 rm disp rn s
  | .addImm16 imm rn => Sys2Proof.Machine.execAddImm16 imm rn s
  | .braN16 label => Sys2Proof.Machine.execBraN16 label s
  | .bsrN16 label => Sys2Proof.Machine.execBsrN16 label s
  | .cmpEqImm16 imm => Sys2Proof.Machine.execCmpEqImm16 imm s
  | .bt16 label => Sys2Proof.Machine.execBt16 label s
  | .ldhf16Imm imm => Sys2Proof.Machine.execLdhf16Imm imm s
  | .bf16 label => Sys2Proof.Machine.execBf16 label s
  | .ldif16 imm => Sys2Proof.Machine.execLdif16 imm s
  | .btS16 label => Sys2Proof.Machine.execBtS16 label s
  | .bfS16 label => Sys2Proof.Machine.execBfS16 label s
  | .ldsh16 imm rn => Sys2Proof.Machine.execLdsh16 imm rn s
  | .movBStoreGbr12 rm disp => Sys2Proof.Machine.execMovBStoreGbr12 rm disp s
  | .movWStoreGbr12 rm disp => Sys2Proof.Machine.execMovWStoreGbr12 rm disp s
  | .movLStoreGbr12 rm disp => Sys2Proof.Machine.execMovLStoreGbr12 rm disp s
  | .movBLoadGbr12 disp rn => Sys2Proof.Machine.execMovBLoadGbr12 disp rn s
  | .movWLoadGbr12 disp rn => Sys2Proof.Machine.execMovWLoadGbr12 disp rn s
  | .movLLoadGbr12 disp rn => Sys2Proof.Machine.execMovLLoadGbr12 disp rn s
  | .tstImm12 imm rn => Sys2Proof.Machine.execTstImm12 imm rn s
  | .andImm12 imm rn => Sys2Proof.Machine.execAndImm12 imm rn s
  | .xorImm12 imm rn => Sys2Proof.Machine.execXorImm12 imm rn s
  | .orImm12 imm rn => Sys2Proof.Machine.execOrImm12 imm rn s
  | .movImm16 imm rn => Sys2Proof.Machine.execMovImm16 imm rn s

end Sys2Proof.Machine
end

