-- ==== Sys2Proof/Machine/Run.lean ====
section
/-! DEFINITION. From one instruction boundary to the next: what the environment presents, fetch, decode, execute
(43_branch.md R400, 60_exceptions.md R614, R621). -/

noncomputable section

namespace Sys2Proof.Machine

/-- What the environment presents at this boundary (60_exceptions.md R620). -/
def State.event (s : State) : Event := s.events.headD .quiet

/-- The state past this boundary's request. -/
def State.consumed (s : State) : State := { s with events := s.events.tail }

/-- The MD a fetch is checked with: SR.MD, or in a delay slot the one the branch recorded (44_system.md R470). -/
def State.fetchMd (s : State) : Bool :=
  match s.pending with
  | none => s.md
  | some p => p.fetchMd

/-- An unassigned encoding raises RESINST, or ILLSLOT in a slot (60_exceptions.md R603). -/
def reservedInstruction (s : State) : Res :=
  if s.inSlot then raise .illSlot s else raise .resInst s

/-- What the machine does with the words it decoded (30_encoding.md R150). -/
def runDecoded (d : Decoded) (s : State) : Res :=
  match d with
  | .instr i => exec i s
  | .unassigned => reservedInstruction s
  | .outOfScope => .refused .outOfScopeEncoding
  | .deprecated form => .refused (.deprecatedEncoding form)

/-- The second word of a 32-bit form is fetched and the pair run; in a slot the first word alone is slot-illegal
(43_branch.md R401, 20_memory.md R87). -/
def runWide (w0 : Half) (md : Bool) (s : State) : Res :=
  notInSlot s ((fetch md (s.pc + 2) s).andThen fun w1 s => runDecoded (decode w0 w1) s)

/-- Fetch, decode and execute the instruction at the pc (20_memory.md R87, 43_branch.md R400). -/
def runInstruction (s : State) : Res :=
  (fetch s.fetchMd s.pc s).andThen fun w0 t =>
    if isWide w0 then runWide w0 s.fetchMd t else runDecoded (decode w0 0) t

/-- What the environment presents makes a sleeping core go on: a reset, or a request it accepts (44_system.md R468,
70_reset_and_hazards.md R700). -/
def wakes (s : State) (ev : Event) : Bool :=
  match ev with
  | .reset _ => true
  | _ => (acceptedCode s ev).isSome

/-- An instruction, once no request is accepted. A sleeping core stays as it is while something that wakes it is to
come; else it has reached the final state of SLEEP (44_system.md R468, 70_reset_and_hazards.md R720(a)). -/
def runOrSleep (s : State) : Res :=
  if s.asleep then
    if s.events.any (wakes s) then .next s else .fault .asleepForever
  else runInstruction s

/-- One boundary: a reset, an accepted interrupt, or an instruction (60_exceptions.md R614, R621;
70_reset_and_hazards.md R700). -/
def runBoundary (ev : Event) (s : State) : Res :=
  match ev with
  | .reset cause => .next (s.afterReset cause)
  | _ =>
    match acceptedCode s ev with
    | some code => .next (enterInterrupt code s)
    | none => runOrSleep s

/-- The physical address of the next instruction, when its fetch raises nothing. -/
def State.fetchAddress (s : State) : Nat := ((probe s.pc s).getD (untranslated s.pc)).toNat

/-- Memory and stale bytes with the words `w0`, `w1` placed at physical address `pa`, fresh for a fetch. -/
def State.placeWords (s : State) (pa : Nat) (w0 w1 : Half) : State :=
  { s with
    mem := memSetList s.mem pa (bytesOfHalf s.cfg.endian w0 ++ bytesOfHalf s.cfg.endian w1)
    stale := dropStale (pa + 2) (dropStale pa s.stale) }

end Sys2Proof.Machine

end
end

