-- ==== Sys2Proof/Machine/Step.lean ====
section
/-! DEFINITION. One step of the machine, and the state in which a given instruction is the next one. -/

noncomputable section

namespace Sys2Proof.Machine

/-- One step, from one instruction boundary to the next (43_branch.md R400). -/
def step (s : State) : Host.Outcome State Fault Refusal := runBoundary s.event s.consumed

/-- `s` with the instruction whose bits are `w`, numbered as spec/opcode_table.json numbers them, stored where `step`
fetches its next instruction. -/
def State.withFetchWord (s : State) (nbits w : Nat) : State :=
  s.placeWords s.fetchAddress (tableWords nbits w).1 (tableWords nbits w).2

end Sys2Proof.Machine

end
end

