-- ==== Sys2Proof/Safety.lean ====
section
/-! DEFINITION. The terms the claims are stated in: the invariant of the machine, what an instruction leaves unchanged,
when an access reaches memory, the classes of instructions the rules name, and, family by family, what the rules say an
instruction computes. The tables follow the arithmetic of the rules, not the text of the meanings. -/

noncomputable section

namespace Sys2Proof.Safety

open Sys2Proof.Machine

/-! ### The invariant -/

/-- What holds of the state at every instruction boundary: memory is canonical; bits of SR outside SR_MASK are 0
(10_state.md R31); the event registers hold only their fields (10_state.md R45); reserved bits of MMUCR are 0, and
translation is off on a core without an MMU (20_memory.md R100, R106). -/
structure StateInvariant (s : State) : Prop where
  memory : Memory.wf s.mem = true
  sr : s.sr &&& ~~~srMask = 0
  traevt : s.traevt &&& ~~~0x3FC = 0
  expevt : s.expevt &&& ~~~0xFFF = 0
  intevt : s.intevt &&& ~~~0xFFF = 0
  mmucr : s.mmucr &&& ~~~mmucrMask = 0
  noMmu : s.cfg.hasMmu = false → s.translating = false

/-! ### What an instruction leaves unchanged -/

/-- The registers that are neither general nor floating-point, SR and PC apart (10_state.md R40 to R45). -/
inductive Special where
  | gbr | vbr | ssr | spc | sgr | dbr | mach | macl | pr | fpul | fpscr
  | pteh | ptel | ttb | tea | mmucr | traevt | expevt | intevt
  deriving DecidableEq, Repr

/-- The value of a special register. -/
def special (s : State) : Special → Word
  | .gbr => s.gbr
  | .vbr => s.vbr
  | .ssr => s.ssr
  | .spc => s.spc
  | .sgr => s.sgr
  | .dbr => s.dbr
  | .mach => s.mach
  | .macl => s.macl
  | .pr => s.pr
  | .fpul => s.fpul
  | .fpscr => s.fpscr
  | .pteh => s.pteh
  | .ptel => s.ptel
  | .ttb => s.ttb
  | .tea => s.tea
  | .mmucr => s.mmucr
  | .traevt => s.traevt
  | .expevt => s.expevt
  | .intevt => s.intevt

/-- A floating-point cell: of Bank B, or of Bank A (10_state.md R50). -/
def fpCell (s : State) (inB : Bool) (c : FReg) : Word := if inB then s.fb[c] else s.fa[c]

/-- `XF[r]` (10_state.md R50). -/
def xf (s : State) (r : FReg) : Word := fpCell s (!s.frBit) r

/-- The two cells of `pair(r)` (45_fpu.md R504). -/
def pairCells (s : State) (r : FReg) : List (Bool × FReg) :=
  [(s.pairInB r, ⟨pairHi r, pairHi_lt r⟩), (s.pairInB r, ⟨pairLo r, pairLo_lt r⟩)]

/-- Nothing differs between two states but the general registers `regs` as currently named, the bits `srBits` of SR, the
special registers `specials`, the floating-point cells `cells` and the bytes of memory at the physical addresses
`bytes`; PC and the delay-slot state are not spoken of, nor is the model's own draw counter. -/
structure Frame (s t : State) (regs : List Reg) (srBits : List Nat) (specials : List Special)
    (cells : List (Bool × FReg)) (bytes : List Nat) : Prop where
  reg : ∀ q, q ∉ regs → t.reg q = s.reg q
  bank : ∀ b, t.otherBank b = s.otherBank b
  sr : ∀ i, i ∉ srBits → t.sr.getLsbD i = s.sr.getLsbD i
  special : ∀ x, x ∉ specials → special t x = special s x
  fp : ∀ inB c, (inB, c) ∉ cells → fpCell t inB c = fpCell s inB c
  mem : ∀ a, a ∉ bytes → memGet t.mem a = memGet s.mem a
  stale : bytes = [] → t.stale = s.stale
  asleep : t.asleep = s.asleep
  events : t.events = s.events
  devLog : t.devLog = s.devLog
  cfg : t.cfg = s.cfg

/-- The instruction has been passed: execution goes on after it, or, in a delay slot, at the pending target
(43_branch.md R400). -/
structure Completed (i : Instr) (s t : State) : Prop where
  pc : t.pc = match s.pending with
    | none => s.pc + i.size
    | some p => p.target
  pending : t.pending = none

/-! ### Classes of instructions -/

/-- The slot-illegal instructions (43_branch.md R401). -/
def slotIllegal (i : Instr) : Bool :=
  i.wide || match i with
    | .bf8 _ | .bt8 _ | .bfS8 _ | .btS8 _ | .bra _ | .braN8 _ | .braf _ | .bsr _ | .bsrf _ | .jmp _ | .jsr _ | .jsrN _
    | .rts | .rtsN | .rte | .trapa _ => true
    | .movWLoadPcDisp _ _ | .movLLoadPcDisp _ _ | .mova _ | .movBStorePcR0 _ | .movWStorePcR0 _ | .movLStorePcR0 _
    | .movBLoadPcR0 _ | .movWLoadPcR0 _ | .movLLoadPcR0 _ | .leaBPcR0 _ | .fmovStorePcR0 _ | .fmovLoadPcR0 _ => true
    | _ => false

/-- The privileged instructions (60_exceptions.md R630). -/
def privilegedInstr (i : Instr) : Bool :=
  match i with
  | .ldcSr _ | .ldcVbr _ | .ldcSsr _ | .ldcSpc _ | .ldcSgr _ | .ldcDbr _ | .ldcBank _ _ => true
  | .ldclSr _ | .ldclVbr _ | .ldclSsr _ | .ldclSpc _ | .ldclSgr _ | .ldclDbr _ | .ldclBank _ _ => true
  | .stcSr _ | .stcVbr _ | .stcSsr _ | .stcSpc _ | .stcSgr _ | .stcDbr _ | .stcBank _ _ => true
  | .stclSr _ | .stclVbr _ | .stclSsr _ | .stclSpc _ | .stclSgr _ | .stclDbr _ | .stclBank _ _ => true
  | .ldtlb | .rte | .sleep => true
  | _ => false

/-- The FPU instructions (45_fpu.md R501). -/
def fpuInstr (i : Instr) : Bool :=
  match i with
  | .stsFpul _ | .stsFpscr _ | .stslFpul _ | .stslFpscr _ | .ldsFpul _ | .ldsFpscr _ | .ldslFpul _ | .ldslFpscr _ => true
  | .fadd _ _ | .fsub _ _ | .fmul _ _ | .fdiv _ _ | .fcmpEq _ _ | .fcmpGt _ _ | .fmac _ _ | .fmov _ _ => true
  | .fneg _ | .fabs _ | .fsqrt _ | .fldi0 _ | .fldi1 _ | .float _ | .ftrc _ | .fsts _ | .flds _ | .fcnvsd _ | .fcnvds _ => true
  | .fadd3 _ _ _ | .fsub3 _ _ _ | .fmul3 _ _ _ | .fdiv3 _ _ _ => true
  | .fmovLoadR0Idx _ _ | .fmovStoreR0Idx _ _ | .fmovLoadInd _ _ | .fmovLoadPostInc _ _ | .fmovStoreInd _ _
  | .fmovStorePreDec _ _ | .fmovStorePcR0 _ | .fmovLoadPcR0 _ | .fmovStoreDisp8 _ _ _ | .fmovLoadDisp8 _ _ _
  | .fmovLoadIdx _ _ _ | .fmovStoreIdx _ _ _ => true
  | .ldhf16 _ | .ldhf16Imm _ | .ldif16 _ | .sthf16 _ | .psetmd _ | .fschg | .fpchg | .frchg => true
  | _ => false

/-- An instruction may run where it stands: a slot-illegal one not in a delay slot (43_branch.md R401). -/
def Startable (i : Instr) (s : State) : Prop := slotIllegal i = true → s.pending = none

/-- The mode may run the instruction (60_exceptions.md R630). -/
def ModeAllows (i : Instr) (s : State) : Prop := privilegedInstr i = true → s.md = true

/-- The FPU is there and enabled (45_fpu.md R501, R502). -/
def FpuOn (s : State) : Prop := s.fd = false ∧ s.cfg.fpuProfile ≠ .none

/-- FPU registers may be accessed: the Basic profile has Bank A only (45_fpu.md R501). -/
def FpuReady (s : State) : Prop := FpuOn s ∧ (s.cfg.fpuProfile = .basic → s.frBit = false)

/-- The pair exists: an odd one needs the Normal profile (45_fpu.md R501, R504). -/
def PairExists (s : State) (r : FReg) : Prop := s.cfg.fpuProfile = .basic → pairOdd r = false

/-- The rounding mode is one of the two defined (45_fpu.md R505(b)). -/
def RoundingSet (s : State) : Prop := s.rm.toNat < 2

/-! ### Memory-mapped registers -/

/-- The offset of a memory-mapped register from FF00_0000 (10_state.md R45). -/
def registerOffset : Mmr → Nat
  | .pteh => 0x00
  | .ptel => 0x04
  | .ttb => 0x08
  | .tea => 0x0C
  | .mmucr => 0x10
  | .traevt => 0x20
  | .expevt => 0x24
  | .intevt => 0x28

/-- A memory-mapped register under its name. -/
def mmrSpecial : Mmr → Special
  | .pteh => .pteh
  | .ptel => .ptel
  | .ttb => .ttb
  | .tea => .tea
  | .mmucr => .mmucr
  | .traevt => .traevt
  | .expevt => .expevt
  | .intevt => .intevt

/-- A value a store to the register takes: any but one with a reserved bit of MMUCR, or with AT on a core without an MMU
(20_memory.md R100, R106). -/
def mmrAccepts (cfg : Config) (r : Mmr) (v : Word) : Prop :=
  r = .mmucr → v &&& ~~~0x105 = 0 ∧ (v.getLsbD 0 = true → cfg.hasMmu = true)

/-- The bits of a memory-mapped register that hold what is stored (10_state.md R45): the fields the spec names; of MMUCR
bit 2 need not read back (20_memory.md R100). -/
def registerKeeps : Mmr → Nat → Bool
  | .traevt, n => decide (2 ≤ n ∧ n ≤ 9)
  | .expevt, n => decide (n < 12)
  | .intevt, n => decide (n < 12)
  | .mmucr, n => decide (n = 0 ∨ n = 8)
  | _, _ => true

/-! ### Accesses -/

/-- An access by an instruction reaches ordinary memory at physical address `pa` (20_memory.md R85). -/
def Reaches (k : AccessKind) (w : Width) (s : State) (va : Word) (pa : Nat) : Prop :=
  ∃ u, resolve k s.md w va s = .ok (.memory pa) u

/-- The physical addresses of an access (20_memory.md R81). -/
def accessBytes (w : Width) (pa : Nat) : List Nat :=
  match w with
  | .byte => [pa]
  | .half => [pa, pa + 1]
  | .long => [pa, pa + 1, pa + 2, pa + 3]

/-- The value in memory at a physical address, lowest byte first on a little-endian machine (20_memory.md R81). -/
def valueAt (s : State) (pa : Nat) (w : Width) : Word := loadBytes s.cfg.endian s.mem pa w

/-- The special registers that a store to a place may change. -/
def placeSpecials : Place → List Special
  | .register r => [mmrSpecial r]
  | _ => []

/-- The bytes of memory that a store of width `w` to a place may change. -/
def placeBytes (w : Width) : Place → List Nat
  | .memory pa => accessBytes w pa
  | _ => []

/-- In state `s` a read of width `w` finds `v` at a place, and leaves state `m`: memory and registers answer what they
hold, a device any value of that width, and the access to a device is recorded (20_memory.md R85 step 4, R90). -/
structure Finds (w : Width) (p : Place) (v : Word) (s m : State) : Prop where
  state : m = { s with free := m.free, devLog := m.devLog }
  value : match p with
    | .memory pa => v = valueAt s pa w ∧ m.devLog = s.devLog
    | .register r => v = s.mmr r ∧ m.devLog = s.devLog
    | .device pa => v = w.trunc v ∧ m.devLog = ⟨false, pa, w, v⟩ :: s.devLog

/-- In state `s` a place takes a store of the low bits of `v`, which leaves state `m`: memory holds them, a register the
bits it has, a device is recorded as accessed, and nothing else changes (20_memory.md R85 step 4, R90). -/
structure Takes (w : Width) (p : Place) (v : Word) (s m : State) : Prop where
  frame : Frame s { m with devLog := s.devLog } [] [] (placeSpecials p) [] (placeBytes w p)
  value : match p with
    | .memory pa => valueAt m pa w = w.trunc v ∧ m.devLog = s.devLog
    | .register r => (∀ n, registerKeeps r n = true → (m.mmr r).getLsbD n = v.getLsbD n) ∧ m.devLog = s.devLog
    | .device pa => m.devLog = ⟨true, pa, w, w.trunc v⟩ :: s.devLog

/-- A place that is a register takes the value (20_memory.md R100, R106). -/
def PlaceAccepts (cfg : Config) (p : Place) (v : Word) : Prop := ∀ r, p = .register r → mmrAccepts cfg r v

/-- The instruction that accesses memory once in ordinary width: what kind of access it makes, how wide, and where. -/
structure AccessForm where
  kind : AccessKind
  width : Width
  addr : Word
  deriving DecidableEq, Repr

/-! ### From one boundary to the next -/

/-- Nothing but the next instruction is due at this boundary: no reset, no accepted request, no sleep
(43_branch.md R400, 60_exceptions.md R621). -/
structure Undisturbed (s : State) : Prop where
  awake : s.asleep = false
  noReset : ∀ c, s.event ≠ .reset c
  noInterrupt : acceptedCode s s.event = none

/-- No store has touched the 16-bit word at `pa` since it was last invalidated (20_memory.md R113). -/
def Fresh (s : State) (pa : Nat) : Prop := staleAt pa s.stale = [] ∧ staleAt (pa + 1) s.stale = []

/-- The fetch at the pc reaches memory at `pa`; for a 32-bit form, that of its second word reaches memory at `pb`; both
words are fresh (20_memory.md R87, R113). -/
def FetchPath (s : State) (wide : Bool) (pa pb : Nat) : Prop :=
  ∃ u, resolve .read s.fetchMd .half s.pc s.consumed = .ok (.memory pa) u ∧ Fresh s pa ∧
    (wide = true → ∃ v, resolve .read s.fetchMd .half (s.pc + 2) u.drawn.drawn = .ok (.memory pb) v ∧ Fresh s pb)

/-- The 16-bit word in memory at `pa` (20_memory.md R82). -/
def wordAt (s : State) (pa : Nat) : Half :=
  match s.cfg.endian with
  | .little => memGet s.mem (pa + 1) ++ memGet s.mem pa
  | .big => memGet s.mem pa ++ memGet s.mem (pa + 1)

/-- The state an instruction is executed in: the boundary's request is consumed, and fetching has drawn free values. -/
def atExecution (s : State) (n : Nat) : State := { s with events := s.events.tail, free := n }

/-! ### Traps -/

/-- The codes of 60_exceptions.md R600. -/
def exceptionCode : Exc → Nat
  | .rtlbMiss _ => 0x040
  | .wtlbMiss _ => 0x060
  | .firstWrite _ => 0x080
  | .readProt _ => 0x0A0
  | .writeProt _ => 0x0C0
  | .rAddErr _ => 0x0E0
  | .wAddErr _ => 0x100
  | .fpuExc => 0x120
  | .tlbMultiHit _ => 0x140
  | .trap _ => 0x160
  | .resInst => 0x180
  | .illSlot => 0x1A0
  | .uBrk => 0x1E0
  | .fpuDis => 0x800
  | .slotFpuDis => 0x820

/-- The address an exception records in TEA, for the eight memory exceptions (20_memory.md R86). -/
def recordedAddress : Exc → Option Word
  | .rtlbMiss va | .wtlbMiss va | .firstWrite va | .readProt va | .writeProt va | .rAddErr va | .wAddErr va
  | .tlbMultiHit va => some va
  | _ => none

/-- The immediate an exception records in TRAEVT (44_system.md R472). -/
def recordedImmediate : Exc → Option (BitVec 8)
  | .trap imm => some imm
  | _ => none

/-- What trap entry leaves whatever the cause: the pc, SR and R15 saved, supervisor mode on Bank B with interrupts
blocked, the other bits of SR and every other register, memory and the awaited requests kept
(60_exceptions.md R610). -/
structure TrapEntered (s t : State) (spc pc : Word) : Prop where
  spc : t.spc = spc
  ssr : t.ssr = s.sr
  sgr : t.sgr = s.reg 15
  mode : t.md = true ∧ t.rb = true ∧ t.bl = true
  sr : ∀ n, n ≠ 28 → n ≠ 29 → n ≠ 30 → t.sr.getLsbD n = s.sr.getLsbD n
  pc : t.pc = pc
  pending : t.pending = none
  registers : t.bankA = s.bankA ∧ t.bankB = s.bankB ∧ t.high = s.high ∧ t.fa = s.fa ∧ t.fb = s.fb
  specials : ∀ x, x ∉ [Special.spc, .ssr, .sgr, .tea, .traevt, .expevt, .intevt] → special t x = special s x
  memory : t.mem = s.mem ∧ t.stale = s.stale ∧ t.devLog = s.devLog

/-! ### Translation (20_memory.md R105, R107) -/

/-- The physical address of the directory entry of `va`. -/
def directoryEntry (s : State) (va : Word) : Nat := s.ttb.toNat / 4096 * 4096 + va.toNat / 2 ^ 22 * 4

/-- The physical address of the table entry of `va` in the table a directory entry names. -/
def pageEntry (pde va : Word) : Nat := pde.toNat / 4096 * 4096 + va.toNat / 4096 % 1024 * 4

/-- An entry of the page table lies in memory. -/
def InTableMemory (s : State) (pa : Nat) : Prop := regionAt s.cfg.regions pa = some .memory

/-- An entry is valid and names a 4 kB page (20_memory.md R103, R104). -/
def ValidEntry (e : Word) : Prop := e.getLsbD 8 = true ∧ e.getLsbD 4 = true ∧ e.getLsbD 7 = false

/-- What a valid entry makes of an access (20_memory.md R107). -/
def permissionFault (k : AccessKind) (md : Bool) (va pte : Word) : Option Exc :=
  if md = false ∧ pte.getLsbD 6 = false then some (k.protection va)
  else if k = .write ∧ pte.getLsbD 5 = false then some (.writeProt va)
  else if k = .write ∧ pte.getLsbD 2 = false then some (.firstWrite va)
  else none

/-- The address is aligned and the mode may use it (20_memory.md R72, R83); 29-bit addressing (R70). -/
structure Addressable (md : Bool) (w : Width) (va : Word) (s : State) : Prop where
  mode29 : s.cfg.addr32 = false
  aligned : va.toNat % w.bytes = 0
  allowed : md = true ∨ va.toNat < 2 ^ 31

/-- The access is translated: AT = 1 and ranges 0 to 3 or 6 (20_memory.md R71, R105). -/
def Translated (s : State) (va : Word) : Prop :=
  s.mmucr.getLsbD 0 = true ∧ (va.toNat < 0x80000000 ∨ (0xC0000000 ≤ va.toNat ∧ va.toNat < 0xE0000000))

/-! ### Moves, address and extension results (40_data_transfer.md) -/

/-- An integer as a 32-bit value, modulo 2^32 (00_scope.md R11). -/
def word (x : Int) : Word := BitVec.ofInt 32 x

/-- The low `n` bits of a value as a two's-complement integer. -/
def signedLow (v : Word) (n : Nat) : Int := (v.setWidth n).toInt

/-- The low `n` bits of a value as an unsigned integer. -/
def unsignedLow (v : Word) (n : Nat) : Int := (v.toNat % 2 ^ n : Nat)

/-- The destination and the value of the instructions that move, extend or compute an address
(40_data_transfer.md R205 to R213, R252 to R258, R270 to R272; 41_arithmetic.md R314). -/
def moveResult (s : State) : Instr → Option (Reg × Word)
  | .mov rm rn => some (rn, s.reg rm)
  | .movImm8 imm rn => some (rn, word imm.toInt)
  | .movImm16 imm rn => some (rn, word imm.toInt)
  | .movi24 imm => some (0, word imm.toInt)
  | .ldsh16 imm rn => some (rn, word ((s.reg rn).toNat * 65536 + imm.toInt))
  | .extsB rm rn => some (rn, word (signedLow (s.reg rm) 8))
  | .extsW rm rn => some (rn, word (signedLow (s.reg rm) 16))
  | .extuB rm rn => some (rn, word (unsignedLow (s.reg rm) 8))
  | .extuW rm rn => some (rn, word (unsignedLow (s.reg rm) 16))
  | .movt rn => some (rn, if s.t then 1 else 0)
  | .movrt rn => some (rn, if s.t then 0 else 1)
  | .swapB rm rn =>
    some (rn, word ((s.reg rm).toNat / 65536 * 65536 + (s.reg rm).toNat % 256 * 256 + (s.reg rm).toNat / 256 % 256 : Nat))
  | .swapW rm rn => some (rn, word ((s.reg rm).toNat % 65536 * 65536 + (s.reg rm).toNat / 65536 : Nat))
  | .xtrct rm rn => some (rn, word ((s.reg rm).toNat % 65536 * 65536 + (s.reg rn).toNat / 65536 : Nat))
  | .cselt rs rt rn => some (rn, if s.t then s.reg rs else s.reg rt)
  | .mova disp => some (0, word ((s.pc + 4).toNat / 4 * 4 + disp.toNat * 4 : Nat))
  | .leaBPcR0 rn => some (rn, word (s.pc.toNat + 4 + (s.reg 0).toNat : Nat))
  | .leaBDisp8 rm disp rn => some (rn, word ((s.reg rm).toNat + disp.toInt))
  | .leaWDisp8 rm disp rn => some (rn, word ((s.reg rm).toNat + disp.toInt * 2))
  | .leaLDisp8 rm disp rn => some (rn, word ((s.reg rm).toNat + disp.toInt * 4))
  | .leaQDisp8 rm disp rn => some (rn, word ((s.reg rm).toNat + disp.toInt * 8))
  | .leaBIdx4 rm ro disp rn => some (rn, word ((s.reg rm).toNat + ((s.reg ro).toNat + disp.toNat) : Nat))
  | .leaWIdx4 rm ro disp rn => some (rn, word ((s.reg rm).toNat + ((s.reg ro).toNat + disp.toNat) * 2 : Nat))
  | .leaLIdx4 rm ro disp rn => some (rn, word ((s.reg rm).toNat + ((s.reg ro).toNat + disp.toNat) * 4 : Nat))
  | .leaQIdx4 rm ro disp rn => some (rn, word ((s.reg rm).toNat + ((s.reg ro).toNat + disp.toNat) * 8 : Nat))
  | _ => none

/-! ### Arithmetic results (41_arithmetic.md) -/

/-- The destination and the value of the arithmetic that leaves T alone (41_arithmetic.md R300 to R302, R330, R335,
R340, R341). -/
def arithmeticResult (s : State) : Instr → Option (Reg × Word)
  | .add rm rn => some (rn, word ((s.reg rn).toNat + (s.reg rm).toNat : Nat))
  | .addImm8 imm rn => some (rn, word ((s.reg rn).toNat + imm.toInt))
  | .addImm16 imm rn => some (rn, word ((s.reg rn).toNat + imm.toInt))
  | .add3Imm8 rm imm rn => some (rn, word ((s.reg rm).toNat + imm.toNat : Nat))
  | .add3 rs rt rn => some (rn, word ((s.reg rs).toNat + (s.reg rt).toNat : Nat))
  | .sub rm rn => some (rn, word ((s.reg rn).toNat - (s.reg rm).toNat))
  | .sub3Imm8 rm imm rn => some (rn, word ((s.reg rm).toNat - imm.toNat))
  | .sub3 rs rt rn => some (rn, word ((s.reg rs).toNat - (s.reg rt).toNat))
  | .neg rm rn => some (rn, word (-(s.reg rm).toNat))
  | .mul3Imm8 rm imm rn => some (rn, word ((s.reg rm).toNat * imm.toNat : Nat))
  | .mul3NegImm8 rm imm rn => some (rn, word ((s.reg rm).toNat * (imm.toNat - 256 : Int)))
  | .mul3 rs rt rn => some (rn, word ((s.reg rs).toNat * (s.reg rt).toNat : Nat))
  | _ => none

/-- The exact value, and whether T is set, of the arithmetic that writes T; the register takes the value modulo 2^32
(41_arithmetic.md R303, R304, R320, R336, R342, R343). -/
def carryResult (s : State) : Instr → Option (Reg × Int × Bool)
  | .addc rm rn =>
    let x : Int := (s.reg rn).toNat + (s.reg rm).toNat + (s.t.toNat : Int)
    some (rn, x, decide (2 ^ 32 ≤ x))
  | .addv rm rn =>
    let x : Int := (s.reg rn).toInt + (s.reg rm).toInt
    some (rn, x, decide (x < -2 ^ 31 ∨ 2 ^ 31 ≤ x))
  | .subc rm rn =>
    let x : Int := (s.reg rn).toNat - (s.reg rm).toNat - (s.t.toNat : Int)
    some (rn, x, decide (x < 0))
  | .subv rm rn =>
    let x : Int := (s.reg rn).toInt - (s.reg rm).toInt
    some (rn, x, decide (x < -2 ^ 31 ∨ 2 ^ 31 ≤ x))
  | .negc rm rn =>
    let x : Int := 0 - (s.reg rm).toNat - (s.t.toNat : Int)
    some (rn, x, decide (x < 0))
  | .dt rn =>
    let x : Int := (s.reg rn).toNat - 1
    some (rn, x, decide (x = 0))
  | _ => none

/-- What a 12-bit immediate of TST or OR stands for, by the parameter that decides it (30_encoding.md R133). -/
def imm12Value (signed : Bool) (imm : BitVec 12) : Word := if signed then word imm.toInt else word imm.toNat

/-- Some byte of one value equals the corresponding byte of the other (41_arithmetic.md R313). -/
def byteMatch (a b : Word) : Bool := (List.range 4).any fun k => a.toNat / 256 ^ k % 256 == b.toNat / 256 ^ k % 256

/-- The relation a comparison or test sets T by (41_arithmetic.md R306 to R313; 42_logic_shift.md R357, R358). -/
def compareResult (s : State) : Instr → Option Bool
  | .cmpEq rm rn => some (decide ((s.reg rn).toNat = (s.reg rm).toNat))
  | .cmpEqImm8 imm => some (decide ((s.reg 0).toInt = imm.toInt))
  | .cmpEqImm12 imm rn => some (decide ((s.reg rn).toInt = imm.toInt))
  | .cmpEqImm16 imm => some (decide ((s.reg 0).toInt = imm.toInt))
  | .cmpGe rm rn => some (decide ((s.reg rm).toInt ≤ (s.reg rn).toInt))
  | .cmpGeImm12 imm rn => some (decide (imm.toInt ≤ (s.reg rn).toInt))
  | .cmpGt rm rn => some (decide ((s.reg rm).toInt < (s.reg rn).toInt))
  | .cmpGtImm12 imm rn => some (decide (imm.toInt < (s.reg rn).toInt))
  | .cmpHi rm rn => some (decide ((s.reg rm).toNat < (s.reg rn).toNat))
  | .cmpHiImm12 imm rn => some (decide ((word imm.toInt).toNat < (s.reg rn).toNat))
  | .cmpHs rm rn => some (decide ((s.reg rm).toNat ≤ (s.reg rn).toNat))
  | .cmpHsImm12 imm rn => some (decide ((word imm.toInt).toNat ≤ (s.reg rn).toNat))
  | .cmpPl rn => some (decide (0 < (s.reg rn).toInt))
  | .cmpPz rn => some (decide (0 ≤ (s.reg rn).toInt))
  | .cmpStr rm rn => some (byteMatch (s.reg rn) (s.reg rm))
  | .tst rm rn => some (decide (s.reg rn &&& s.reg rm = 0))
  | .tstImm8 imm => some (decide (s.reg 0 &&& word imm.toNat = 0))
  | .tstImm12 imm rn => some (decide (s.reg rn &&& imm12Value s.cfg.imm12TstSigned imm = 0))
  | _ => none

/-- The value the multiplications and CLRMAC leave in MACH:MACL; `none` for MACH where it is kept
(41_arithmetic.md R318, R319, R331 to R333; 44_system.md R450). -/
def macResult (s : State) : Instr → Option (Option Word × Word)
  | .mulL rm rn => some (none, word ((s.reg rn).toNat * (s.reg rm).toNat : Nat))
  | .mulsW rm rn => some (none, word (signedLow (s.reg rn) 16 * signedLow (s.reg rm) 16))
  | .muluW rm rn => some (none, word (unsignedLow (s.reg rn) 16 * unsignedLow (s.reg rm) 16))
  | .dmulsL rm rn =>
    let p : Int := (s.reg rn).toInt * (s.reg rm).toInt
    some (some (word (p / 2 ^ 32)), word p)
  | .dmuluL rm rn =>
    let p : Int := ((s.reg rn).toNat * (s.reg rm).toNat : Nat)
    some (some (word (p / 2 ^ 32)), word p)
  | .clrmac => some (some 0, 0)
  | _ => none

/-! ### Logic and shift results (42_logic_shift.md) -/

/-- The destination and the bits of the logic instructions (42_logic_shift.md R350 to R356, R359 to R361). -/
def logicResult (s : State) : Instr → Option (Reg × Word)
  | .and rm rn => some (rn, s.reg rn &&& s.reg rm)
  | .andImm8 imm => some (0, s.reg 0 &&& word imm.toNat)
  | .andImm12 imm rn => some (rn, s.reg rn &&& word imm.toInt)
  | .and3Imm8 rm imm rn => some (rn, s.reg rm &&& word imm.toNat)
  | .and3NegImm8 rm imm rn => some (rn, s.reg rm &&& word (imm.toNat - 256 : Int))
  | .and3 rs rt rn => some (rn, s.reg rs &&& s.reg rt)
  | .not rm rn => some (rn, s.reg rm ^^^ 0xFFFFFFFF)
  | .or rm rn => some (rn, s.reg rn ||| s.reg rm)
  | .orImm8 imm => some (0, s.reg 0 ||| word imm.toNat)
  | .orImm12 imm rn => some (rn, s.reg rn ||| imm12Value s.cfg.imm12OrSigned imm)
  | .or3Imm8 rm imm rn => some (rn, s.reg rm ||| word imm.toNat)
  | .or3 rs rt rn => some (rn, s.reg rs ||| s.reg rt)
  | .xor rm rn => some (rn, s.reg rn ^^^ s.reg rm)
  | .xorImm8 imm => some (0, s.reg 0 ^^^ word imm.toNat)
  | .xorImm12 imm rn => some (rn, s.reg rn ^^^ word imm.toNat)
  | .xor3Imm8 rm imm rn => some (rn, s.reg rm ^^^ word imm.toNat)
  | .xor3 rs rt rn => some (rn, s.reg rs ^^^ s.reg rt)
  | _ => none

/-- The destination, the value and the bit shifted out of the one-bit shifts and rotates
(42_logic_shift.md R363 to R366, R368 to R370, R376). -/
def oneBitResult (s : State) : Instr → Option (Reg × Word × Bool)
  | .rotl rn => some (rn, word ((s.reg rn).toNat * 2 + (s.reg rn).toNat / 2 ^ 31 : Nat), (s.reg rn).getLsbD 31)
  | .rotr rn => some (rn, word ((s.reg rn).toNat / 2 + (s.reg rn).toNat % 2 * 2 ^ 31 : Nat), (s.reg rn).getLsbD 0)
  | .rotcl rn => some (rn, word ((s.reg rn).toNat * 2 + s.t.toNat : Nat), (s.reg rn).getLsbD 31)
  | .rotcr rn => some (rn, word ((s.reg rn).toNat / 2 + s.t.toNat * 2 ^ 31 : Nat), (s.reg rn).getLsbD 0)
  | .shal rn => some (rn, word ((s.reg rn).toNat * 2 : Nat), (s.reg rn).getLsbD 31)
  | .shll rn => some (rn, word ((s.reg rn).toNat * 2 : Nat), (s.reg rn).getLsbD 31)
  | .shar rn => some (rn, word ((s.reg rn).toInt / 2), (s.reg rn).getLsbD 0)
  | .shlr rn => some (rn, word ((s.reg rn).toNat / 2 : Nat), (s.reg rn).getLsbD 0)
  | _ => none

/-- A logical shift by a signed count: left by its low five bits when it is not negative, else right by their
complement to 32 (42_logic_shift.md R362). -/
def logicalShift (v : Word) (c : Word) : Word :=
  if 0 ≤ c.toInt then word ((v.toNat : Int) * 2 ^ (c.toNat % 32))
  else if c.toNat % 32 = 0 then 0
  else word ((v.toNat : Int) / 2 ^ (32 - c.toNat % 32))

/-- An arithmetic shift by a signed count (42_logic_shift.md R362). -/
def arithmeticShift (v : Word) (c : Word) : Word :=
  if 0 ≤ c.toInt then word (v.toInt * 2 ^ (c.toNat % 32))
  else if c.toNat % 32 = 0 then word (v.toInt / 2 ^ 32)
  else word (v.toInt / 2 ^ (32 - c.toNat % 32))

/-- The destination and the value of the shifts that leave T alone (42_logic_shift.md R367, R371 to R375, R377 to
R384). -/
def shiftResult (s : State) : Instr → Option (Reg × Word)
  | .shll2 rn => some (rn, word ((s.reg rn).toNat * 2 ^ 2 : Nat))
  | .shll4 rn => some (rn, word ((s.reg rn).toNat * 2 ^ 4 : Nat))
  | .shll8 rn => some (rn, word ((s.reg rn).toNat * 2 ^ 8 : Nat))
  | .shll16 rn => some (rn, word ((s.reg rn).toNat * 2 ^ 16 : Nat))
  | .shlr2 rn => some (rn, word ((s.reg rn).toNat / 2 ^ 2 : Nat))
  | .shlr4 rn => some (rn, word ((s.reg rn).toNat / 2 ^ 4 : Nat))
  | .shlr8 rn => some (rn, word ((s.reg rn).toNat / 2 ^ 8 : Nat))
  | .shlr16 rn => some (rn, word ((s.reg rn).toNat / 2 ^ 16 : Nat))
  | .shad rm rn => some (rn, arithmeticShift (s.reg rn) (s.reg rm))
  | .shld rm rn => some (rn, logicalShift (s.reg rn) (s.reg rm))
  | .shad3Imm8 rm imm rn => some (rn, arithmeticShift (s.reg rm) (word imm.toInt))
  | .shld3Imm8 rm imm rn => some (rn, logicalShift (s.reg rm) (word imm.toInt))
  | .shad3 rs rt rn => some (rn, arithmeticShift (s.reg rs) (s.reg rt))
  | .shld3 rs rt rn => some (rn, logicalShift (s.reg rs) (s.reg rt))
  | .shlr3 rs rt rn => some (rn, logicalShift (s.reg rs) (word (-(s.reg rt).toNat)))
  | .shar3 rs rt rn => some (rn, arithmeticShift (s.reg rs) (word (-(s.reg rt).toNat)))
  | _ => none

/-! ### Branches (43_branch.md) -/

/-- Where a branch goes on and whether it has a delay slot; the condition, where there is one, is on T
(43_branch.md R402 to R410, R419, R420). -/
structure BranchForm where
  /-- The condition holds. -/
  taken : Bool
  /-- The target when it does. -/
  target : Word
  /-- The branch has a delay slot. -/
  delayed : Bool
  /-- What PR receives, for a call. -/
  link : Option Word
  deriving DecidableEq, Repr

/-- The branches, calls and returns (43_branch.md R402 to R420). -/
def branchForm (s : State) : Instr → Option BranchForm
  | .bf8 label => some ⟨!s.t, word (s.pc.toNat + 4 + label.toInt * 2), false, none⟩
  | .bt8 label => some ⟨s.t, word (s.pc.toNat + 4 + label.toInt * 2), false, none⟩
  | .bf16 label => some ⟨!s.t, word (s.pc.toNat + 6 + label.toInt * 2), false, none⟩
  | .bt16 label => some ⟨s.t, word (s.pc.toNat + 6 + label.toInt * 2), false, none⟩
  | .bfS8 label => some ⟨!s.t, word (s.pc.toNat + 4 + label.toInt * 2), true, none⟩
  | .btS8 label => some ⟨s.t, word (s.pc.toNat + 4 + label.toInt * 2), true, none⟩
  | .bfS16 label => some ⟨!s.t, word (s.pc.toNat + 6 + label.toInt * 2), true, none⟩
  | .btS16 label => some ⟨s.t, word (s.pc.toNat + 6 + label.toInt * 2), true, none⟩
  | .bra label => some ⟨true, word (s.pc.toNat + 4 + label.toInt * 2), true, none⟩
  | .braN8 label => some ⟨true, word (s.pc.toNat + 4 + label.toInt * 2), false, none⟩
  | .braN16 label => some ⟨true, word (s.pc.toNat + 6 + label.toInt * 2), false, none⟩
  | .braf rm => some ⟨true, word (s.pc.toNat + 4 + (s.reg rm).toNat : Nat), true, none⟩
  | .jmp rm => some ⟨true, s.reg rm, true, none⟩
  | .rts => some ⟨true, s.pr, true, none⟩
  | .rtsN => some ⟨true, s.pr, false, none⟩
  | .bsr label => some ⟨true, word (s.pc.toNat + 4 + label.toInt * 2), true, some (s.pc + 4)⟩
  | .bsrf rm => some ⟨true, word (s.pc.toNat + 4 + (s.reg rm).toNat : Nat), true, some (s.pc + 4)⟩
  | .jsr rm => some ⟨true, s.reg rm, true, some (s.pc + 4)⟩
  | .jsrN rm => some ⟨true, s.reg rm, false, some (s.pc + 2)⟩
  | .bsrN16 label => some ⟨true, word (s.pc.toNat + 6 + label.toInt * 2), false, some (s.pc + 4)⟩
  | _ => none

/-- The address after the instruction and, for a branch with delay slot, after its slot (43_branch.md R404). -/
def fallThrough (i : Instr) (s : State) (delayed : Bool) : Word :=
  if delayed then s.pc + i.size + 2 else s.pc + i.size

/-! ### Loads and stores (40_data_transfer.md) -/

/-- A load into a general register: its width, whether it sign-extends, its address and its destination. -/
structure LoadForm where
  width : Width
  signed : Bool
  addr : Word
  dest : Reg
  deriving DecidableEq, Repr

/-- The value a load puts in a register (40_data_transfer.md R202(b)). -/
def loadedValue (w : Width) (signed : Bool) (v : Word) : Word :=
  if signed then
    match w with
    | .byte => word (signedLow v 8)
    | .half => word (signedLow v 16)
    | .long => v
  else v

/-- The loads that change no address register (40_data_transfer.md R223 to R225, R227 to R230, R236, R237, R241 to R243,
R250, R251, R275, R277, R278, R280 to R282, R284). -/
def loadForm (s : State) : Instr → Option LoadForm
  | .movBLoadR0Idx rm rn => some ⟨.byte, true, s.reg 0 + s.reg rm, rn⟩
  | .movWLoadR0Idx rm rn => some ⟨.half, true, s.reg 0 + s.reg rm, rn⟩
  | .movLLoadR0Idx rm rn => some ⟨.long, true, s.reg 0 + s.reg rm, rn⟩
  | .movBLoadInd rm rn => some ⟨.byte, true, s.reg rm, rn⟩
  | .movWLoadInd rm rn => some ⟨.half, true, s.reg rm, rn⟩
  | .movLLoadInd rm rn => some ⟨.long, true, s.reg rm, rn⟩
  | .movLLoadDisp4 rm disp rn => some ⟨.long, true, eaDisp (s.reg rm) (zext disp) .long, rn⟩
  | .movBLoadR0Disp4 rm disp => some ⟨.byte, true, eaDisp (s.reg rm) (zext disp) .byte, 0⟩
  | .movWLoadR0Disp4 rm disp => some ⟨.half, true, eaDisp (s.reg rm) (zext disp) .half, 0⟩
  | .movBLoadPcR0 rn => some ⟨.byte, true, eaPcR0 s, rn⟩
  | .movWLoadPcR0 rn => some ⟨.half, true, eaPcR0 s, rn⟩
  | .movLLoadPcR0 rn => some ⟨.long, true, eaPcR0Long s, rn⟩
  | .movWLoadPcDisp disp rn => some ⟨.half, true, eaDisp (pcBase s) (zext disp) .half, rn⟩
  | .movLLoadPcDisp disp rn => some ⟨.long, true, eaDisp (pcBaseAligned s) (zext disp) .long, rn⟩
  | .movBLoadGbr8 disp => some ⟨.byte, true, eaDisp s.gbr (zext disp) .byte, 0⟩
  | .movWLoadGbr8 disp => some ⟨.half, true, eaDisp s.gbr (zext disp) .half, 0⟩
  | .movLLoadGbr8 disp => some ⟨.long, true, eaDisp s.gbr (zext disp) .long, 0⟩
  | .movBLoadGbr12 disp rn => some ⟨.byte, true, eaDisp s.gbr (zext disp) .byte, rn⟩
  | .movWLoadGbr12 disp rn => some ⟨.half, true, eaDisp s.gbr (zext disp) .half, rn⟩
  | .movLLoadGbr12 disp rn => some ⟨.long, true, eaDisp s.gbr (zext disp) .long, rn⟩
  | .movBLoadDisp8 rm disp rn => some ⟨.byte, true, eaDisp (s.reg rm) (sext disp) .byte, rn⟩
  | .movWLoadDisp8 rm disp rn => some ⟨.half, true, eaDisp (s.reg rm) (sext disp) .half, rn⟩
  | .movLLoadDisp8 rm disp rn => some ⟨.long, true, eaDisp (s.reg rm) (sext disp) .long, rn⟩
  | .movuBLoadDisp8 rm disp rn => some ⟨.byte, false, eaDisp (s.reg rm) (sext disp) .byte, rn⟩
  | .movuWLoadDisp8 rm disp rn => some ⟨.half, false, eaDisp (s.reg rm) (sext disp) .half, rn⟩
  | .movBLoadIdx4 rm ro disp rn => some ⟨.byte, true, indexEa s (s.reg rm) ro (zext disp) 1, rn⟩
  | .movWLoadIdx4 rm ro disp rn => some ⟨.half, true, indexEa s (s.reg rm) ro (zext disp) 2, rn⟩
  | .movLLoadIdx4 rm ro disp rn => some ⟨.long, true, indexEa s (s.reg rm) ro (zext disp) 4, rn⟩
  | .movLLoadIdx8 rm ro disp rn => some ⟨.long, true, indexEa s (s.reg rm) ro (sext disp) 4, rn⟩
  | .movuBLoadIdx rm ro rn => some ⟨.byte, false, indexEa s (s.reg rm) ro 0 1, rn⟩
  | .movuWLoadIdx rm ro rn => some ⟨.half, false, indexEa s (s.reg rm) ro 0 2, rn⟩
  | _ => none

/-- A store: its width, its address and the value whose low bits it stores. -/
structure StoreForm where
  width : Width
  addr : Word
  value : Word
  deriving DecidableEq, Repr

/-- The stores that change no address register (40_data_transfer.md R214 to R216, R220 to R222, R226, R234, R235, R238 to
R240, R262, R274, R276, R278, R279, R283). -/
def storeForm (s : State) : Instr → Option StoreForm
  | .movBStoreR0Idx rm rn => some ⟨.byte, s.reg 0 + s.reg rn, s.reg rm⟩
  | .movWStoreR0Idx rm rn => some ⟨.half, s.reg 0 + s.reg rn, s.reg rm⟩
  | .movLStoreR0Idx rm rn => some ⟨.long, s.reg 0 + s.reg rn, s.reg rm⟩
  | .movBStoreInd rm rn => some ⟨.byte, s.reg rn, s.reg rm⟩
  | .movWStoreInd rm rn => some ⟨.half, s.reg rn, s.reg rm⟩
  | .movLStoreInd rm rn => some ⟨.long, s.reg rn, s.reg rm⟩
  | .movLStoreDisp4 rm rn disp => some ⟨.long, eaDisp (s.reg rn) (zext disp) .long, s.reg rm⟩
  | .movBStoreR0Disp4 rn disp => some ⟨.byte, eaDisp (s.reg rn) (zext disp) .byte, s.reg 0⟩
  | .movWStoreR0Disp4 rn disp => some ⟨.half, eaDisp (s.reg rn) (zext disp) .half, s.reg 0⟩
  | .movBStorePcR0 rm => some ⟨.byte, eaPcR0 s, s.reg rm⟩
  | .movWStorePcR0 rm => some ⟨.half, eaPcR0 s, s.reg rm⟩
  | .movLStorePcR0 rm => some ⟨.long, eaPcR0Long s, s.reg rm⟩
  | .movcaL rn => some ⟨.long, s.reg rn, s.reg 0⟩
  | .movBStoreGbr8 disp => some ⟨.byte, eaDisp s.gbr (zext disp) .byte, s.reg 0⟩
  | .movWStoreGbr8 disp => some ⟨.half, eaDisp s.gbr (zext disp) .half, s.reg 0⟩
  | .movLStoreGbr8 disp => some ⟨.long, eaDisp s.gbr (zext disp) .long, s.reg 0⟩
  | .movBStoreGbr12 rm disp => some ⟨.byte, eaDisp s.gbr (zext disp) .byte, s.reg rm⟩
  | .movWStoreGbr12 rm disp => some ⟨.half, eaDisp s.gbr (zext disp) .half, s.reg rm⟩
  | .movLStoreGbr12 rm disp => some ⟨.long, eaDisp s.gbr (zext disp) .long, s.reg rm⟩
  | .movBStoreDisp8 rm rn disp => some ⟨.byte, eaDisp (s.reg rn) (sext disp) .byte, s.reg rm⟩
  | .movWStoreDisp8 rm rn disp => some ⟨.half, eaDisp (s.reg rn) (sext disp) .half, s.reg rm⟩
  | .movLStoreDisp8 rm rn disp => some ⟨.long, eaDisp (s.reg rn) (sext disp) .long, s.reg rm⟩
  | .movBStoreIdx4 rm rn ro disp => some ⟨.byte, indexEa s (s.reg rn) ro (zext disp) 1, s.reg rm⟩
  | .movWStoreIdx4 rm rn ro disp => some ⟨.half, indexEa s (s.reg rn) ro (zext disp) 2, s.reg rm⟩
  | .movLStoreIdx4 rm rn ro disp => some ⟨.long, indexEa s (s.reg rn) ro (zext disp) 4, s.reg rm⟩
  | .movLStoreIdx8 rm rn ro disp => some ⟨.long, indexEa s (s.reg rn) ro (sext disp) 4, s.reg rm⟩
  | _ => none

/-- A load or store that also steps its address register: width, address, the register and its new value. -/
structure StepForm where
  width : Width
  addr : Word
  pointer : Reg
  after : Word
  deriving DecidableEq, Repr

/-- The loads that step their address register, with their destination (40_data_transfer.md R231 to R233, R247 to
R249). -/
def stepLoadForm (s : State) : Instr → Option (StepForm × Reg)
  | .movBLoadPostInc rm rn => some (⟨.byte, s.reg rm, rm, s.reg rm + 1⟩, rn)
  | .movWLoadPostInc rm rn => some (⟨.half, s.reg rm, rm, s.reg rm + 2⟩, rn)
  | .movLLoadPostInc rm rn => some (⟨.long, s.reg rm, rm, s.reg rm + 4⟩, rn)
  | .movBLoadR0PreDec rm => some (⟨.byte, s.reg rm - 1, rm, s.reg rm - 1⟩, 0)
  | .movWLoadR0PreDec rm => some (⟨.half, s.reg rm - 2, rm, s.reg rm - 2⟩, 0)
  | .movLLoadR0PreDec rm => some (⟨.long, s.reg rm - 4, rm, s.reg rm - 4⟩, 0)
  | _ => none

/-- The register a control or system register instruction reads or writes, under its name (44_system.md R430 to R433,
R440, R442, R444, R446). -/
def controlOf : Instr → Option Special
  | .stcGbr _ | .stclGbr _ | .ldcGbr _ | .ldclGbr _ => some .gbr
  | .stcVbr _ | .stclVbr _ | .ldcVbr _ | .ldclVbr _ => some .vbr
  | .stcSsr _ | .stclSsr _ | .ldcSsr _ | .ldclSsr _ => some .ssr
  | .stcSpc _ | .stclSpc _ | .ldcSpc _ | .ldclSpc _ => some .spc
  | .stcSgr _ | .stclSgr _ | .ldcSgr _ | .ldclSgr _ => some .sgr
  | .stcDbr _ | .stclDbr _ | .ldcDbr _ | .ldclDbr _ => some .dbr
  | .stsMach _ | .stslMach _ | .ldsMach _ | .ldslMach _ => some .mach
  | .stsMacl _ | .stslMacl _ | .ldsMacl _ | .ldslMacl _ => some .macl
  | .stsPr _ | .stslPr _ | .ldsPr _ | .ldslPr _ => some .pr
  | .stsFpul _ | .stslFpul _ | .ldsFpul _ | .ldslFpul _ => some .fpul
  | .stsFpscr _ | .stslFpscr _ | .ldsFpscr _ | .ldslFpscr _ => some .fpscr
  | _ => none

/-- STC and STS into a general register: the destination (44_system.md R430, R440, R441). -/
def storeControlDest : Instr → Option Reg
  | .stcSr rn | .stcGbr rn | .stcVbr rn | .stcSsr rn | .stcSpc rn | .stcSgr rn | .stcDbr rn | .stcBank _ rn => some rn
  | .stsMach rn | .stsMacl rn | .stsPr rn | .stsFpul rn | .stsFpscr rn => some rn
  | _ => none

/-- STC.L and STS.L: the address register (44_system.md R431, R442, R443). -/
def pushPointer : Instr → Option Reg
  | .stclSr rn | .stclGbr rn | .stclVbr rn | .stclSsr rn | .stclSpc rn | .stclSgr rn | .stclDbr rn | .stclBank _ rn => some rn
  | .stslMach rn | .stslMacl rn | .stslPr rn | .stslFpul rn | .stslFpscr rn => some rn
  | _ => none

/-- The value STC, STC.L, STS and STS.L read (44_system.md R430, R431, R440 to R443). -/
def controlRead (s : State) (i : Instr) : Option Word :=
  match i with
  | .stcSr _ | .stclSr _ => some s.sr
  | .stcBank b _ | .stclBank b _ => some (s.otherBank b)
  | _ => (controlOf i).map (special s)

/-- LDC and LDS of a special register: the source (44_system.md R432, R444). -/
def loadControlSource : Instr → Option Reg
  | .ldcGbr rm | .ldcVbr rm | .ldcSsr rm | .ldcSpc rm | .ldcSgr rm | .ldcDbr rm => some rm
  | .ldsMach rm | .ldsMacl rm | .ldsPr rm | .ldsFpul rm | .ldsFpscr rm => some rm
  | _ => none

/-- LDC.L and LDS.L of a special register: the address register (44_system.md R433, R446). -/
def popPointer : Instr → Option Reg
  | .ldclGbr rm | .ldclVbr rm | .ldclSsr rm | .ldclSpc rm | .ldclSgr rm | .ldclDbr rm => some rm
  | .ldslMach rm | .ldslMacl rm | .ldslPr rm | .ldslFpul rm | .ldslFpscr rm => some rm
  | _ => none

/-- The stores that step their address register, with the value stored (40_data_transfer.md R217 to R219, R244 to R246;
44_system.md R431, R442, R443). -/
def stepStoreForm (s : State) (i : Instr) : Option (StepForm × Word) :=
  match i with
  | .movBStorePreDec rm rn => some (⟨.byte, s.reg rn - 1, rn, s.reg rn - 1⟩, s.reg rm)
  | .movWStorePreDec rm rn => some (⟨.half, s.reg rn - 2, rn, s.reg rn - 2⟩, s.reg rm)
  | .movLStorePreDec rm rn => some (⟨.long, s.reg rn - 4, rn, s.reg rn - 4⟩, s.reg rm)
  | .movBStoreR0PostInc rn => some (⟨.byte, s.reg rn, rn, s.reg rn + 1⟩, s.reg 0)
  | .movWStoreR0PostInc rn => some (⟨.half, s.reg rn, rn, s.reg rn + 2⟩, s.reg 0)
  | .movLStoreR0PostInc rn => some (⟨.long, s.reg rn, rn, s.reg rn + 4⟩, s.reg 0)
  | _ =>
    match pushPointer i, controlRead s i with
    | some rn, some v => some (⟨.long, s.reg rn - 4, rn, s.reg rn - 4⟩, v)
    | _, _ => none

/-- LDC.L of SR and of a bank register, and LDC.L and LDS.L of any other: the address register (44_system.md R433, R446,
R447). -/
def loadPointer : Instr → Option Reg
  | .ldclSr rm => some rm
  | .ldclBank rm _ => some rm
  | i => popPointer i

/-- The one access of the instructions that make one, floating-point moves apart. -/
def accessForm (s : State) (i : Instr) : Option AccessForm :=
  match loadForm s i, stepLoadForm s i, storeForm s i, stepStoreForm s i, loadPointer i with
  | some f, _, _, _, _ => some ⟨.read, f.width, f.addr⟩
  | _, some f, _, _, _ => some ⟨.read, f.1.width, f.1.addr⟩
  | _, _, some f, _, _ => some ⟨.write, f.width, f.addr⟩
  | _, _, _, some f, _ => some ⟨.write, f.1.width, f.1.addr⟩
  | _, _, _, _, some rm => some ⟨.read, .long, s.reg rm⟩
  | _, _, _, _, _ =>
    match i with
    | .casL _ _ => some ⟨.write, .long, s.reg 0⟩
    | _ => none

/-! ### Numbers and their rounding (45_fpu.md R505) -/

/-- What an operand or an exact result is: a number with its sign, which a zero has too, an infinity, or none of them. -/
inductive Extended where
  | nan
  | inf (sign : Bool)
  | num (sign : Bool) (x : ℝ)

/-- The magnitude of a finite pattern (45_fpu.md R505(a)). -/
def magnitude (f : FpFormat) (x : Nat) : ℝ :=
  ((if f.expField x = 0 then f.fracField x else 2 ^ f.frac + f.fracField x : Nat) : ℝ)
    * (2 : ℝ) ^ (f.minUlp + ((max (f.expField x) 1 : Nat) : Int) - 1)

/-- What a pattern stands for; with DN = 1 a denormal is a zero of its sign (45_fpu.md R505(a), (c)). -/
def numberOf (f : FpFormat) (dn : Bool) (x : Nat) : Extended :=
  if f.expField x = f.maxExp then
    if f.fracField x = 0 then .inf (f.sign x) else .nan
  else if dn = true ∧ f.expField x = 0 then .num (f.sign x) 0
  else .num (f.sign x) (if f.sign x then -magnitude f x else magnitude f x)

/-- An integer as a number (45_fpu.md R532). -/
def numberOfInt (z : Int) : Extended := .num (decide (z < 0)) (z : ℝ)

/-- The exact sum; infinities of opposite signs have none, and a zero is negative only when both terms are
(45_fpu.md R505(d), R510). -/
def exactSum : Extended → Extended → Extended
  | .nan, _ => .nan
  | .inf _, .nan => .nan
  | .num _ _, .nan => .nan
  | .inf s, .inf t => if s = t then .inf s else .nan
  | .inf s, .num _ _ => .inf s
  | .num _ _, .inf t => .inf t
  | .num s x, .num t y => .num (if x + y = 0 then s && t else decide (x + y < 0)) (x + y)

/-- The number of the other sign. -/
def opposite : Extended → Extended
  | .nan => .nan
  | .inf s => .inf (!s)
  | .num s x => .num (!s) (-x)

/-- The exact difference, the first minus the second (45_fpu.md R511). -/
def exactDifference (a b : Extended) : Extended := exactSum a (opposite b)

/-- The exact product; zero times infinity is none (45_fpu.md R505(d), R512). -/
def exactProduct : Extended → Extended → Extended
  | .nan, _ => .nan
  | .inf _, .nan => .nan
  | .num _ _, .nan => .nan
  | .inf s, .inf t => .inf (s != t)
  | .inf s, .num t y => if y = 0 then .nan else .inf (s != t)
  | .num s x, .inf t => if x = 0 then .nan else .inf (s != t)
  | .num s x, .num t y => .num (s != t) (x * y)

/-- The exact quotient, the first divided by the second: 0/0 and infinity by infinity are none, a finite number other
than zero by zero is an infinity (45_fpu.md R505(d), R513). -/
def exactQuotient : Extended → Extended → Extended
  | .nan, _ => .nan
  | .inf _, .nan => .nan
  | .num _ _, .nan => .nan
  | .inf _, .inf _ => .nan
  | .inf s, .num t _ => .inf (s != t)
  | .num s _, .inf t => .num (s != t) 0
  | .num s x, .num t y =>
    if y = 0 then if x = 0 then .nan else .inf (s != t)
    else .num (s != t) (x / y)

/-- The exact square root: of a negative number none, of -0 it is -0 (45_fpu.md R505(d), R518). -/
def exactRoot : Extended → Extended
  | .nan => .nan
  | .inf s => if s then .nan else .inf false
  | .num s x => if x = 0 then .num s 0 else if s then .nan else .num false (Real.sqrt x)

/-- The pattern is neither an infinity nor a NaN. -/
def isFinite (f : FpFormat) (x : Nat) : Prop := f.expField x ≠ f.maxExp

/-- Magnitudes from here on overflow to infinity under round to nearest: half a last place above the largest finite
number (45_fpu.md R505(d)). -/
def overflowBound (f : FpFormat) : ℝ :=
  ((2 ^ (f.frac + 2) - 1 : Nat) : ℝ) * (2 : ℝ) ^ (f.minUlp + (f.maxExp : Int) - 3)

/-- To nearest, ties to even: no finite pattern is closer to the magnitude, one as close means that the result is even,
and from the overflow bound on the result is infinite (45_fpu.md R505(b), (d)). -/
def IsNearest (f : FpFormat) (exact : ℝ) (r : Nat) : Prop :=
  (overflowBound f ≤ exact → f.expField r = f.maxExp ∧ f.fracField r = 0) ∧
  (exact < overflowBound f → isFinite f r ∧
    ∀ y < 2 ^ f.signAt, isFinite f y → |magnitude f r - exact| ≤ |magnitude f y - exact| ∧
      (|magnitude f y - exact| = |magnitude f r - exact| → y = r % 2 ^ f.signAt ∨ r % 2 = 0))

/-- Toward zero: the greatest finite magnitude not above the exact one (45_fpu.md R505(b), (d)). -/
def IsTruncation (f : FpFormat) (exact : ℝ) (r : Nat) : Prop :=
  isFinite f r ∧ magnitude f r ≤ exact ∧
    ∀ y < 2 ^ f.signAt, isFinite f y → magnitude f y ≤ exact → magnitude f y ≤ magnitude f r

/-- The pattern `r` is the result that an exact one rounds to: some NaN where there is none; for a number other than zero
the rounding of its magnitude under its sign, which with DN = 1 becomes a zero of that sign when it is denormal
(45_fpu.md R505(b) to (d); that it is judged after rounding is log 35). -/
def RoundsTo (f : FpFormat) (toZero dn : Bool) : Extended → Nat → Prop
  | .nan, r => f.isNan r = true
  | .inf s, r => r = f.inf s
  | .num s x, r =>
    if x = 0 then r = f.zero s
    else ∃ p < 2 ^ (f.signAt + 1), f.sign p = s ∧
      (if toZero = true then IsTruncation f |x| p else IsNearest f |x| p) ∧
      r = if dn = true ∧ f.expField p = 0 then f.zero s else p

/-- `exact` is the magnitude that `round` is asked to round: the significand at its exponent, or, when `sticky`, a value
just above a significand that has more bits than a result keeps. -/
def IsExact (f : FpFormat) (sticky : Bool) (sig : Nat) (e : Int) (exact : ℝ) : Prop :=
  if sticky then 2 ^ (f.frac + 2) ≤ sig ∧ (sig : ℝ) * 2 ^ e < exact ∧ exact < ((sig + 1 : Nat) : ℝ) * 2 ^ e
  else exact = (sig : ℝ) * 2 ^ e

/-- Two values are equal as numbers; neither is a NaN (45_fpu.md R514). -/
def NumbersEqual : Extended → Extended → Prop
  | .inf s, .inf t => s = t
  | .num _ x, .num _ y => x = y
  | _, _ => False

/-- One value is less than another; neither is a NaN (45_fpu.md R515). -/
def NumberLess : Extended → Extended → Prop
  | .inf s, .inf t => s = true ∧ t = false
  | .inf s, .num _ _ => s = true
  | .num _ _, .inf t => t = false
  | .num _ x, .num _ y => x < y
  | _, _ => False

/-- A number with its fraction discarded (45_fpu.md R533). -/
def wholePart (x : ℝ) : Int := if 0 ≤ x then ⌊x⌋ else ⌈x⌉

/-! ### Floating point (45_fpu.md) -/

/-- The two- and three-register arithmetic: function, left and right operand, destination (45_fpu.md R510 to R513,
R520). -/
def fpArithForm : Instr → Option ((Extended → Extended → Extended) × FReg × FReg × FReg)
  | .fadd rm rn => some (exactSum, rn, rm, rn)
  | .fsub rm rn => some (exactDifference, rn, rm, rn)
  | .fmul rm rn => some (exactProduct, rn, rm, rn)
  | .fdiv rm rn => some (exactQuotient, rn, rm, rn)
  | .fadd3 rs rt rn => some (exactSum, rs, rt, rn)
  | .fsub3 rs rt rn => some (exactDifference, rs, rt, rn)
  | .fmul3 rs rt rn => some (exactProduct, rs, rt, rn)
  | .fdiv3 rs rt rn => some (exactQuotient, rs, rt, rn)
  | _ => none

/-- The arithmetic instructions, which need a defined rounding mode whether they round or not: those of R503 but FTRC,
which R533 gives a result under any, with FMAC and FCNVDS (45_fpu.md R503, R505(b), R519, R533, R545). -/
def fpArithmetic (i : Instr) : Bool :=
  match i with
  | .fadd _ _ | .fsub _ _ | .fmul _ _ | .fdiv _ _ | .fadd3 _ _ _ | .fsub3 _ _ _ | .fmul3 _ _ _ | .fdiv3 _ _ _ => true
  | .fcmpEq _ _ | .fcmpGt _ _ | .fneg _ | .fabs _ | .fsqrt _ | .float _ | .fldi0 _ | .fldi1 _ => true
  | .fmac _ _ | .fcnvds _ => true
  | _ => false

/-- A floating-point load or store: the cell or pair it names, its address, and the address register it steps with its
new value, where it steps one. -/
structure FpAccessForm where
  reg : FReg
  addr : Word
  step : Option (Reg × Word)
  deriving DecidableEq, Repr

/-- The bytes an FMOV.S form moves (45_fpu.md R522). -/
def fpBytes (s : State) : Word := if s.sz then 8 else 4

/-- The scale of displacements and scaled indexes (45_fpu.md R522, R528). -/
def fpStepScale (s : State) : Word := if s.sz ∧ s.cfg.fmovPairScale = .eight then 8 else 4

/-- The floating-point loads (45_fpu.md R523, R527 to R529). -/
def fpLoadForm (s : State) : Instr → Option FpAccessForm
  | .fmovLoadR0Idx rm rn => some ⟨rn, s.reg 0 + s.reg rm, none⟩
  | .fmovLoadInd rm rn => some ⟨rn, s.reg rm, none⟩
  | .fmovLoadPostInc rm rn => some ⟨rn, s.reg rm, some (rm, s.reg rm + fpBytes s)⟩
  | .fmovLoadPcR0 rn => some ⟨rn, eaPcR0Long s, none⟩
  | .fmovLoadDisp8 rm disp rn => some ⟨rn, s.reg rm + sext disp * fpStepScale s, none⟩
  | .fmovLoadIdx rm ro rn => some ⟨rn, indexEa s (s.reg rm) ro 0 (fpStepScale s), none⟩
  | _ => none

/-- The floating-point stores (45_fpu.md R523, R526, R528, R529). -/
def fpStoreForm (s : State) : Instr → Option FpAccessForm
  | .fmovStoreR0Idx rm rn => some ⟨rm, s.reg 0 + s.reg rn, none⟩
  | .fmovStoreInd rm rn => some ⟨rm, s.reg rn, none⟩
  | .fmovStorePreDec rm rn => some ⟨rm, s.reg rn - fpBytes s, some (rn, s.reg rn - fpBytes s)⟩
  | .fmovStorePcR0 rm => some ⟨rm, eaPcR0Long s, none⟩
  | .fmovStoreDisp8 rm rn disp => some ⟨rm, s.reg rn + sext disp * fpStepScale s, none⟩
  | .fmovStoreIdx rm rn ro => some ⟨rm, indexEa s (s.reg rn) ro 0 (fpStepScale s), none⟩
  | _ => none

/-- The two accesses of a pair reach ordinary memory at `pa` and `pb` (45_fpu.md R522). -/
def ReachesPair (k : AccessKind) (s : State) (va : Word) (pa pb : Nat) : Prop :=
  ∃ u v, resolve k s.md .long va s = .ok (.memory pa) u ∧ resolve k s.md .long (va + 4) u = .ok (.memory pb) v

/-- A pair from the word at the lower address and the one above it (45_fpu.md R522). -/
def pairInMemory (s : State) (a b : Word) : DWord :=
  if s.prec = true ∧ s.cfg.endian = .little then b ++ a else a ++ b

/-- The instructions that turn or clear a sign or load a constant: the register, its single and its double result
(45_fpu.md R516, R517, R534, R535). -/
def fpBitForm (s : State) : Instr → Option (FReg × Word × DWord)
  | .fneg rn => some (rn, s.fr rn ^^^ 0x80000000, s.dr rn ^^^ 0x8000000000000000)
  | .fabs rn => some (rn, s.fr rn &&& 0x7FFFFFFF, s.dr rn &&& 0x7FFFFFFFFFFFFFFF)
  | .fldi0 rn => some (rn, 0, 0)
  | .fldi1 rn => some (rn, 0x3F800000, 0x3FF0000000000000)
  | _ => none

/-- The format the arithmetic works in, by FPSCR.PR (45_fpu.md R503). -/
def fpFormat (s : State) : FpFormat := if s.prec then .double else .single

/-- The bits of an arithmetic operand, by FPSCR.PR (45_fpu.md R504). -/
def fpOperand (s : State) (r : FReg) : Nat := if s.prec then (s.dr r).toNat else (s.fr r).toNat

/-- The number an arithmetic operand stands for, by FPSCR.PR (45_fpu.md R504, R505). -/
def fpNumber (s : State) (r : FReg) : Extended := numberOf (fpFormat s) s.dn (fpOperand s r)

/-- The cells an arithmetic result occupies, by FPSCR.PR (45_fpu.md R504). -/
def fpCells (s : State) (r : FReg) : List (Bool × FReg) := if s.prec then pairCells s r else [(s.frBit, r)]

/-- FPU operands exist: with FPSCR.PR = 1 every pair named exists (45_fpu.md R501, R504). -/
def OperandsExist (s : State) (rs : List FReg) : Prop := s.prec = true → ∀ r ∈ rs, PairExists s r

/-- The FPU instructions that read or write floating-point cells, under the bank FPSCR.FR selects (45_fpu.md R501). -/
def usesFpCells (i : Instr) : Bool :=
  match i with
  | .fadd _ _ | .fsub _ _ | .fmul _ _ | .fdiv _ _ | .fadd3 _ _ _ | .fsub3 _ _ _ | .fmul3 _ _ _ | .fdiv3 _ _ _ => true
  | .fcmpEq _ _ | .fcmpGt _ _ | .fmac _ _ | .fmov _ _ | .fsts _ | .flds _ => true
  | .fneg _ | .fabs _ | .fsqrt _ | .fldi0 _ | .fldi1 _ | .float _ | .ftrc _ | .fcnvsd _ | .fcnvds _ => true
  | .fmovLoadR0Idx _ _ | .fmovStoreR0Idx _ _ | .fmovLoadInd _ _ | .fmovLoadPostInc _ _ | .fmovStoreInd _ _
  | .fmovStorePreDec _ _ | .fmovStorePcR0 _ | .fmovLoadPcR0 _ | .fmovStoreDisp8 _ _ _ | .fmovLoadDisp8 _ _ _
  | .fmovLoadIdx _ _ _ | .fmovStoreIdx _ _ _ => true
  | _ => false

/-- The pairs an instruction names: the arithmetic ones with FPSCR.PR = 1, FMOV and FMOV.S with SZ = 1
(45_fpu.md R503, R504). -/
def fpPairs (s : State) (i : Instr) : List FReg :=
  match fpArithForm i, fpLoadForm s i, fpStoreForm s i with
  | some (_, ra, rb, rn), _, _ => if s.prec then [ra, rb, rn] else []
  | _, some f, _ => if s.sz then [f.reg] else []
  | _, _, some f => if s.sz then [f.reg] else []
  | none, none, none =>
    match i with
    | .fmov rm rn => if s.sz then [rm, rn] else []
    | .fcmpEq rm rn | .fcmpGt rm rn => if s.prec then [rm, rn] else []
    | .fneg r | .fabs r | .fsqrt r | .fldi0 r | .fldi1 r | .float r | .ftrc r | .fcnvsd r | .fcnvds r =>
      if s.prec then [r] else []
    | _ => []

/-- The FPSCR the mode-changing instructions leave (45_fpu.md R540, R542 to R544): bit by bit. -/
def fpModeBit (s : State) (i : Instr) (n : Nat) : Option Bool :=
  match i with
  | .psetmd imm =>
    some (if n = 20 then imm.getLsbD 3 else if n = 19 then imm.getLsbD 2 else if n = 21 then imm.getLsbD 0
      else !imm.getLsbD 1 && s.fpscr.getLsbD n)
  | .fschg => some (if n = 20 then !s.sz else s.fpscr.getLsbD n)
  | .fpchg => some (if n = 19 then !s.prec else s.fpscr.getLsbD n)
  | .frchg => some (if n = 21 then !s.frBit else s.fpscr.getLsbD n)
  | _ => none

/-- On a Basic-profile core there is no second bank to select (45_fpu.md R501). -/
def BankSelectable (s : State) (i : Instr) : Prop :=
  s.cfg.fpuProfile = .basic → i ≠ .frchg ∧ ∀ imm, i = .psetmd imm → imm.getLsbD 0 = false

/-- The half of a single as R539 computes it, on the magnitude as a number; `up` is the rounding increment of the last
bit kept (45_fpu.md R539). -/
def halfOf (x : Word) (up : Nat) : Nat :=
  let sign := x.toNat / 2 ^ 31
  let mag := x.toNat % 2 ^ 31
  if 143 * 2 ^ 23 ≤ mag then sign * 2 ^ 15 + 0x7C00
  else if mag < 113 * 2 ^ 23 then 0
  else sign * 2 ^ 15 + (mag - 112 * 2 ^ 23) / 2 ^ 13 + up

/-- The rounding increment of STHF16 where the implementation fixes one (45_fpu.md R539). -/
def halfUp (mode : HalfRounding) (x : Word) : Option Nat :=
  let lost := x.toNat % 2 ^ 13
  match mode with
  | .towardZero => some 0
  | .awayFromZero => some (if lost = 0 then 0 else 1)
  | .nearestEven => some (if 2 ^ 12 < lost ∨ (lost = 2 ^ 12 ∧ x.toNat / 2 ^ 13 % 2 = 1) then 1 else 0)
  | .unfixed => none

/-! ### User mode -/

/-- What user mode may not change but by a trap: the mode, bank, block, mask and FPU-disable bits of SR, the privileged
control registers, Bank B and the memory-mapped registers (60_exceptions.md R625, R630). -/
structure SupervisorStateKept (s t : State) : Prop where
  md : t.md = s.md
  rb : t.rb = s.rb
  bl : t.bl = s.bl
  im : t.im = s.im
  fd : t.fd = s.fd
  vbr : t.vbr = s.vbr
  ssr : t.ssr = s.ssr
  spc : t.spc = s.spc
  sgr : t.sgr = s.sgr
  dbr : t.dbr = s.dbr
  bankB : t.bankB = s.bankB
  registers : ∀ r, t.mmr r = s.mmr r

end Sys2Proof.Safety

end
end

