-- ==== Sys2Proof/Certificates/Slice0/Obligations.lean ====
section
/-! DEFINITION. The statements for the provers, in the terms of Safety.lean. A statement about an instruction concludes
that `exec` answers a next state, says what that state holds, and frames everything else. -/

open Sys2Proof Sys2Proof.Machine Sys2Proof.Safety

/-! ### Encoding -/

/-- Decoding the bytes of any encodable instruction, in either byte order and whatever bytes follow, gives it back with
the bytes that follow (30_encoding.md R120 to R123, R133; 20_memory.md R82). -/
def Obligations.EncodeThenDecode : Prop :=
  ∀ (i : Instr) (e : Endian) (rest : List Byte), i.encodable = true →
    decodeBytes e (encodeBytes e i ++ rest) = some (.instr i, rest)

/-- Each word, or pair of words, that decodes to an instruction is the encoding of that instruction and of no other, and
the instruction is encodable (30_encoding.md R121 to R123, R162). -/
def Obligations.DecodeThenEncode : Prop :=
  ∀ (w0 w1 : Half) (i : Instr), decode w0 w1 = .instr i →
    i.encodable = true ∧ encode i = (w0, if isWide w0 then some w1 else none)

/-- Words written out from the encodings of the spec, one or two of each family (30_encoding.md R170). -/
def Obligations.SampleWordsDecode : Prop :=
  decode 0x312C 0 = .instr (.add 2 1) ∧ decode 0x71FF 0 = .instr (.addImm8 0xFF 1) ∧
  decode 0x8E12 0xEC34 = .instr (.movImm16 0x1234 12) ∧ decode 0x8E23 0x4103 = .instr (.add3 2 3 1) ∧
  decode 0x2F26 0 = .instr (.movLStorePreDec 2 15) ∧ decode 0x8EFF 0xCA1F = .instr (.xorImm12 0xFFF 1) ∧
  decode 0x8FFC 0 = .instr (.bfS8 0xFC) ∧ decode 0xC320 0 = .instr (.trapa 0x20) ∧
  decode 0x01A2 0 = .instr (.stcBank 2 1) ∧ decode 0xF120 0 = .instr (.fadd 2 1) ∧
  decode 0x8A12 0x3456 = .instr (.movi24 0x123456) ∧ decode 0x0F09 0 = .unassigned

/-! ### From one boundary to the next -/

/-- A step whose fetch reaches fresh words in memory that decode to an instruction is `exec` of that instruction; around
it, the step only consumes the boundary's request and draws free values. A 32-bit form is so run outside delay slots
(43_branch.md R400, 20_memory.md R87). -/
def Obligations.StepRunsDecodedInstruction : Prop :=
  ∀ (s : State) (i : Instr) (pa pb : Nat), Undisturbed s → FetchPath s i.wide pa pb →
    isWide (wordAt s pa) = i.wide → decode (wordAt s pa) (wordAt s pb) = .instr i →
    (i.wide = true → s.pending = none) →
    ∃ n, step s = exec i (atExecution s n)

/-- A step at words the encoding tables do not assign takes the exception RESINST, or ILLSLOT in a delay slot; at words
of a larger architecture, or deprecated ones, the model stops (60_exceptions.md R603; 30_encoding.md R160, R161, R163). -/
def Obligations.OtherEncodingsTrapOrStop : Prop :=
  ∀ (s : State) (wide : Bool) (pa pb : Nat), Undisturbed s → FetchPath s wide pa pb →
    isWide (wordAt s pa) = wide → (wide = true → s.pending = none) →
    (decode (wordAt s pa) (wordAt s pb) = .unassigned → s.bl = false →
      ∃ n, step s = .next (enterException (if s.pending = none then .resInst else .illSlot) (atExecution s n))) ∧
    (decode (wordAt s pa) (wordAt s pb) = .outOfScope → step s = .refused .outOfScopeEncoding) ∧
    (∀ form, decode (wordAt s pa) (wordAt s pb) = .deprecated form → step s = .refused (.deprecatedEncoding form))

/-- The invariant of the state survives every step: canonical memory, the bits of SR, of the event registers and of MMUCR
that do not exist read as 0, and a core without an MMU does not translate (10_state.md R31, R45; 20_memory.md R100). -/
def Obligations.StepKeepsWellFormedState : Prop :=
  ∀ (s t : State), StateInvariant s → step s = .next t → StateInvariant t

/-- The state after reset meets the invariant, whatever the parameters. -/
def Obligations.ResetStateWellFormed : Prop :=
  StateInvariant State.reset ∧ ∀ cfg : Config, StateInvariant (State.initial cfg)

/-- No step changes a parameter, a request still to come or a record already made: each consumes one request, draws
forward, and only adds to the log of device accesses. -/
def Obligations.StepKeepsParametersAndRecords : Prop :=
  ∀ (s t : State), step s = .next t →
    t.cfg = s.cfg ∧ t.events = s.events.tail ∧ s.free ≤ t.free ∧ ∃ l, t.devLog = l ++ s.devLog

/-- The state after power-on reset, and what a reset event does to a running machine, at whatever boundary: the values of
10_state.md R65. The spec marks these values as its own decision D20 (log 6); RESET_PC is log 4. After power-on memory
holds what the platform put there (20_memory.md R92; an address it says nothing of, log 7). That a reset event keeps
memory is the model's choice (log 21). -/
def Obligations.ResetValues : Prop :=
  State.reset = State.initial Config.standard ∧
  (∀ (cfg : Config) (a : Nat), memGet (State.initial cfg).mem a = memGet cfg.contents a) ∧
  ∀ (s t : State) (c : ResetCause),
    (t = State.initial s.cfg ∧ c = .powerOn ∨ s.event = .reset c ∧ step s = .next t) →
      t.pc = s.cfg.resetPc ∧ t.md = true ∧ t.rb = true ∧ t.bl = true ∧ t.im = 15 ∧ t.fd = false ∧
      t.vbr = 0 ∧ t.fpscr = 0x00040001 ∧ t.mmucr = 0 ∧ t.pending = none ∧ t.asleep = false ∧
      t.expevt = (match c with | .powerOn => 0x000 | .manual => 0x020) ∧
      (s.event = .reset c → step s = .next t → t.mem = s.mem)

/-- Taking a synchronous exception: what is saved where, the codes, the vectors, the recorded address or immediate; with
SR.BL = 1 the machine is stuck (60_exceptions.md R600, R610 to R612, R616; 20_memory.md R86; 44_system.md R472). -/
def Obligations.ExceptionEntry : Prop :=
  ∀ (e : Exc) (s : State),
    (s.bl = true → raise e s = .fault (.exceptionWhileBlocked e)) ∧
    (s.bl = false → ∃ t, raise e s = .next t ∧
      TrapEntered s t
        (match s.pending with
          | some p => p.branchPc
          | none => if recordedImmediate e = none then s.pc else s.pc + 2)
        (s.vbr + (if exceptionCode e = 0x040 ∨ exceptionCode e = 0x060 then 0x400 else 0x100)) ∧
      t.expevt.toNat = exceptionCode e ∧ t.intevt = s.intevt ∧
      t.tea = (recordedAddress e).getD s.tea ∧
      (match recordedImmediate e with
        | some imm => t.traevt.toNat = imm.toNat * 4
        | none => t.traevt = s.traevt) ∧
      t.asleep = s.asleep ∧ t.events = s.events)

/-- At a boundary without reset a request is accepted exactly when no delay slot is pending, BL is 0, and it is NMI or
above the mask level; accepted, the step is interrupt entry and wakes the core; not accepted, a sleeping core stays as it
is while a reset or a request it accepts is to come, and else has no further step (60_exceptions.md R610, R620, R621;
44_system.md R468; 70_reset_and_hazards.md R720(a)). -/
def Obligations.InterruptAcceptance : Prop :=
  ∀ (s : State), (∀ c, s.event ≠ .reset c) →
    (∀ code, acceptedCode s s.event = some code ↔ s.pending = none ∧ s.bl = false ∧
      (s.event = .nmi ∧ code = 0x1C0 ∨ ∃ level, s.event = .irq level code ∧ s.im.toNat < level.toNat)) ∧
    (∀ code, acceptedCode s s.event = some code →
      ∃ t, step s = .next t ∧ TrapEntered s t s.pc (s.vbr + 0x600) ∧ t.intevt.toNat = code.toNat ∧
        t.expevt = s.expevt ∧ t.tea = s.tea ∧ t.traevt = s.traevt ∧ t.asleep = false) ∧
    (acceptedCode s s.event = none → s.asleep = true →
      ((∃ ev ∈ s.events.tail, (∃ c, ev = .reset c) ∨ acceptedCode s ev ≠ none) →
        step s = .next { s with events := s.events.tail }) ∧
      ((∀ ev ∈ s.events.tail, (∀ c, ev ≠ .reset c) ∧ acceptedCode s ev = none) → step s = .fault .asleepForever))

/-! ### Checks before an instruction runs -/

/-- A privileged instruction in user mode takes RESINST, or ILLSLOT in a delay slot, before any of its operands is read
(60_exceptions.md R603, R630). -/
def Obligations.PrivilegedInUserModeTraps : Prop :=
  ∀ (i : Instr) (s : State), privilegedInstr i = true → s.md = false → s.bl = false →
    exec i s = .next (enterException (if s.pending = none then .resInst else .illSlot) s)

/-- A slot-illegal instruction in a delay slot takes ILLSLOT and does nothing else; of a 32-bit form the first word alone
decides, so a step fetches no second one (43_branch.md R401, 60_exceptions.md R603). -/
def Obligations.SlotIllegalTraps : Prop :=
  ∀ (s : State), s.pending ≠ none → s.bl = false →
    (∀ i, slotIllegal i = true → exec i s = .next (enterException .illSlot s)) ∧
    (∀ pa, Undisturbed s → FetchPath s false pa pa → isWide (wordAt s pa) = true →
      ∃ n, step s = .next (enterException .illSlot (atExecution s n)))

/-- With SR.FD = 1, or without an FPU, an FPU instruction takes FPUDIS, or SLOTFPUDIS in a delay slot, before anything
else but the slot-illegal check (45_fpu.md R501, R502). -/
def Obligations.FpuDisabledTraps : Prop :=
  ∀ (i : Instr) (s : State), fpuInstr i = true → Startable i s → ¬ FpuOn s → s.bl = false →
    exec i s = .next (enterException (if s.pending = none then .fpuDis else .slotFpuDis) s)

/-- An operand or a mode for which the spec gives an instruction no meaning stops the model under its own name: index
register R15, LEA indexed by R0 or R15, FMAC with PR = 1, FCNVSD and FCNVDS with PR = 0, arithmetic with FPSCR.RM = 2 or
3 (FMAC and FCNVDS in the precision they are defined for), and on a Basic-profile core what needs the second bank: cells
with FPSCR.FR = 1, an odd pair, selecting the bank (40_data_transfer.md R203, R271; 45_fpu.md R501, R503 to R505). Which
instructions count as arithmetic beside the list of R503 is log 35. -/
def Obligations.UndefinedOperandsStop : Prop :=
  ∀ (i : Instr) (s : State), Startable i s →
    (i.operandsDefined = false → fpuInstr i = false →
      exec i s = .refused .reservedIndexRegister ∨ exec i s = .refused .undefinedLeaIndex) ∧
    (i.operandsDefined = false → fpuInstr i = true → FpuReady s → exec i s = .refused .reservedIndexRegister) ∧
    (∀ rm rn, i = .fmac rm rn → FpuReady s → s.prec = true → exec i s = .refused .undefinedFpuMode) ∧
    (∀ r, i = .fcnvsd r ∨ i = .fcnvds r → FpuReady s → s.prec = false → exec i s = .refused .undefinedFpuMode) ∧
    (fpArithmetic i = true → FpuReady s → ¬ RoundingSet s → (∀ rm rn, i = .fmac rm rn → s.prec = false) →
      (∀ r, i = .fcnvds r → s.prec = true) → exec i s = .refused .undefinedRounding) ∧
    (s.cfg.fpuProfile = .basic → s.fd = false →
      (usesFpCells i = true → s.frBit = true → exec i s = .refused .absentFpuBank) ∧
      (s.frBit = false → RoundingSet s → i.operandsDefined = true → (∃ r ∈ fpPairs s i, pairOdd r = true) →
        exec i s = .refused .absentFpuBank) ∧
      (¬ BankSelectable s i → exec i s = .refused .absentFpuBank))

/-! ### Access to memory -/

/-- An access that cannot be performed raises its exception and changes no register and no memory: in the integer and
system families, in FMOV.S, whose two accesses with SZ = 1 are both checked before either is performed, and in fetch
(20_memory.md R85, R87; 40_data_transfer.md R202, R260; 44_system.md R431, R433, R442, R443, R446, R447; 45_fpu.md
R522). With SZ = 1 the displacement and scaled-index forms run under either FMOV_PAIR_SCALE, where R522 (D45) has a model
refuse what depends on it: the model's choice, log 39. -/
def Obligations.AccessExceptionsRaised : Prop :=
  ∀ (s u : State) (e : Exc),
    (∀ (i : Instr) (f : AccessForm), accessForm s i = some f → Startable i s → ModeAllows i s →
      i.operandsDefined = true → (fpuInstr i = true → FpuOn s) →
      resolve f.kind s.md f.width f.addr s = .exc e u →
      u = { s with free := u.free } ∧ exec i s = raise e u) ∧
    (∀ (i : Instr) (f : FpAccessForm) (k : AccessKind),
      fpLoadForm s i = some f ∧ k = .read ∨ fpStoreForm s i = some f ∧ k = .write → Startable i s →
      i.operandsDefined = true → FpuReady s → (s.sz = true → PairExists s f.reg) →
      (resolve k s.md .long f.addr s = .exc e u ∨
        (s.sz = true ∧ ∃ place v, resolve k s.md .long f.addr s = .ok place v ∧
          resolve k s.md .long (f.addr + 4) v = .exc e u)) →
      u = { s with free := u.free } ∧ exec i s = raise e u) ∧
    (Undisturbed s → resolve .read s.fetchMd .half s.pc s.consumed = .exc e u →
      u = { s.consumed with free := u.free } ∧ step s = raise e u)

/-- Alignment comes first, then the user-mode limit of the address; an access that passes and is not translated goes to the
low 29 bits of its address, and reaches the device or the memory there; in range 7 devices alone, and memory is refused
by name (20_memory.md R72 to R74, R83, R85; registers are MemoryMappedRegisters; that the device of range 7 is the one at
the physical address is log 10). -/
def Obligations.AddressChecks : Prop :=
  ∀ (k : AccessKind) (md : Bool) (w : Width) (va : Word) (s : State), s.cfg.addr32 = false →
    (¬ Addressable md w va s →
      translate k md w va s = .exc (match k with | .read => .rAddErr va | .write => .wAddErr va) s) ∧
    (Addressable md w va s → ¬ Translated s va →
      (∃ pa, translate k md w va s = .ok pa s ∧ pa.toNat = va.toNat % 2 ^ 29) ∧
      (∀ a, a = va.toNat % 2 ^ 29 → mmrAt a = none →
        (regionAt s.cfg.regions a = some .device → resolve k md w va s = .ok (.device a) s) ∧
        (regionAt s.cfg.regions a = some .memory → va.toNat < 0xE0000000 → resolve k md w va s = .ok (.memory a) s) ∧
        (regionAt s.cfg.regions a = some .memory → 0xE0000000 ≤ va.toNat →
          resolve k md w va s = .refused (.reservedAddress va))))

/-- A translated access walks the two-level table in memory: an invalid entry is a miss; a valid pair of entries gives
the permission faults or the physical address; and any access may miss the TLB all the same
(20_memory.md R101 to R107). -/
def Obligations.PageTableTranslation : Prop :=
  ∀ (k : AccessKind) (md : Bool) (w : Width) (va pde pte : Word) (s : State),
    Addressable md w va s → Translated s va → InTableMemory s (directoryEntry s va) →
    pde = valueAt s (directoryEntry s va) .long →
    ∃ miss, (miss = Exc.rtlbMiss va ∧ k = .read ∨ miss = Exc.wtlbMiss va ∧ k = .write) ∧
      (pde.getLsbD 8 = false → translate k md w va s = .exc miss s.drawn) ∧
      (ValidEntry pde → InTableMemory s (pageEntry pde va) → pte = valueAt s (pageEntry pde va) .long →
        (pte.getLsbD 8 = false → translate k md w va s = .exc miss s.drawn) ∧
        (ValidEntry pte → translate k md w va s = .exc miss s.drawn ∨
          (∃ e, permissionFault k md va pte = some e ∧ translate k md w va s = .exc e s.drawn) ∨
          (permissionFault k md va pte = none ∧ ∃ pa, translate k md w va s = .ok pa s.drawn ∧
            pa.toNat = pte.toNat / 4096 * 4096 + va.toNat % 4096)))

/-- What is stored in memory reads back, in the byte order of the machine; no other byte changes, and canonical memory
stays canonical (20_memory.md R81, R85). -/
def Obligations.StoredValueReadsBack : Prop :=
  ∀ (s : State) (pa : Nat) (w : Width) (v : Word),
    valueAt (s.memoryWrite pa w v) pa w = w.trunc v ∧
    (∀ a, a ∉ accessBytes w pa → memGet (s.memoryWrite pa w v).mem a = memGet s.mem a) ∧
    (∀ k < w.bytes, (memGet (s.memoryWrite pa w v).mem (pa + k)).toNat =
      v.toNat / 256 ^ (match s.cfg.endian with | .little => k | .big => w.bytes - 1 - k) % 256) ∧
    (Memory.wf s.mem = true → Memory.wf (s.memoryWrite pa w v).mem = true)

/-- The eight registers at FF00_0000, and wherever else their low 29 bits are reached without translation: supervisor mode
reads each and writes its fields; reserved bits of MMUCR are refused. In user mode they are out of reach at every address,
whatever translation makes of it, and meet the address error at those aliases (10_state.md R45; 20_memory.md R72 to R74,
R85, R100; 60_exceptions.md R625; that the error is the same below 8000_0000 is log 10). -/
def Obligations.MemoryMappedRegisters : Prop :=
  ∀ (s : State) (r : Mmr) (v va : Word), s.cfg.addr32 = false →
    (va.toNat % 2 ^ 29 = 0x1F000000 + registerOffset r → ¬ Translated s va →
      (s.md = true →
        memRead .long va s = .ok (s.mmr r) s ∧
        (mmrAccepts s.cfg r v →
          ∃ t, memWrite .long va v s = .ok () t ∧
            (∀ n, registerKeeps r n = true → (t.mmr r).getLsbD n = v.getLsbD n) ∧
            (∀ q, q ≠ r → t.mmr q = s.mmr q) ∧ t.mem = s.mem) ∧
        (r = .mmucr → v &&& ~~~0x105 ≠ 0 → memWrite .long va v s = .refused .mmucrReservedBits)) ∧
      (s.md = false →
        memRead .long va s = .exc (.rAddErr va) s ∧ memWrite .long va v s = .exc (.wAddErr va) s)) ∧
    (s.md = false → ∀ k w u, resolve k s.md w va s ≠ .ok (.register r) u)

/-- A fetch sees the byte in memory or one that a store replaced since the last ICBI; a store that changes a byte leaves
the old one possible; after an ICBI only the byte in memory is (20_memory.md R113). That each byte is drawn apart, and
that every older byte since the last ICBI stays possible where R113 gives the old or the new contents, is the model's
choice (log 16); the granule of ICBI is log 17. -/
def Obligations.FetchCoherence : Prop :=
  ∀ (s : State) (a : Nat),
    (fetchByte s a = memGet s.mem a ∨ fetchByte s a ∈ staleAt a s.stale) ∧
    (∀ pa w v b, b ∈ staleAt a (s.memoryWrite pa w v).stale ↔
      b ∈ staleAt a s.stale ∨ (b = memGet s.mem a ∧ memGet (s.memoryWrite pa w v).mem a ≠ memGet s.mem a)) ∧
    (∀ pa : Word, staleAt a (s.invalidate pa).stale =
      if a / 2 = pa.toNat / 2 then [] else staleAt a s.stale)

/-! ### Modes -/

/-- A user-mode step that is no reset and no accepted interrupt either leaves everything user mode may not change as it
was, or is trap entry from a state in which it did (60_exceptions.md R625, R630; 10_state.md R45; the exception a user-mode
access to a register takes below 8000_0000 is log 10). -/
def Obligations.UserModeIsolation : Prop :=
  ∀ (s t : State), s.md = false → (∀ c, s.event ≠ .reset c) → acceptedCode s s.event = none → step s = .next t →
    SupervisorStateKept s t ∨ ∃ e u, SupervisorStateKept s u ∧ t = enterException e u

/-- User mode becomes supervisor mode by reset, or by a trap through one of the three vectors, which saves the user's SR;
by nothing else (60_exceptions.md R611, R625). -/
def Obligations.SupervisorEntryOnlyByTrap : Prop :=
  ∀ (s t : State), s.md = false → step s = .next t → t.md = true →
    (∃ c, s.event = .reset c ∧ t.pc = s.cfg.resetPc) ∨
    (t.ssr = s.sr ∧ t.bl = true ∧ t.rb = true ∧ t.pending = none ∧
      (t.pc = s.vbr + 0x100 ∨ t.pc = s.vbr + 0x400 ∨ t.pc = s.vbr + 0x600))

/-! ### Instructions stated from one rule -/

/-- ADDC: the carry goes in and out of T (41_arithmetic.md R303). -/
def Obligations.AddWithCarry : Prop :=
  ∀ (n m : Reg) (s : State) (w1 : Half),
    decode (word16 0x3 (regNib n) (regNib m) 0xE) w1 = .instr (.addc m n) ∧
    ∃ t, exec (.addc m n) s = .next t ∧
      (t.t.toNat * 2 ^ 32 + (t.reg n).toNat = (s.reg n).toNat + (s.reg m).toNat + s.t.toNat) ∧
      Completed (.addc m n) s t ∧ Frame s t [n] [0] [] [] []

/-- DMULS.L and DMULU.L leave the exact 64-bit product in MACH:MACL (41_arithmetic.md R318, R319). -/
def Obligations.WideMultiply : Prop :=
  ∀ (n m : Reg) (s : State) (w1 : Half),
    (decode (word16 0x3 (regNib n) (regNib m) 0xD) w1 = .instr (.dmulsL m n) ∧
      ∃ t, exec (.dmulsL m n) s = .next t ∧
        (t.mach ++ t.macl).toInt = (s.reg n).toInt * (s.reg m).toInt ∧
        Completed (.dmulsL m n) s t ∧ Frame s t [] [] [.mach, .macl] [] []) ∧
    (decode (word16 0x3 (regNib n) (regNib m) 0x5) w1 = .instr (.dmuluL m n) ∧
      ∃ t, exec (.dmuluL m n) s = .next t ∧
        (t.mach ++ t.macl).toNat = (s.reg n).toNat * (s.reg m).toNat ∧
        Completed (.dmuluL m n) s t ∧ Frame s t [] [] [.mach, .macl] [] [])

/-- The instructions that clear or set flags and MACH:MACL, in either mode (41_arithmetic.md R316;
44_system.md R450 to R452, R454, R455). -/
def Obligations.ClearAndSet : Prop :=
  ∀ (s : State) (w1 : Half),
    (decode 0x0019 w1 = .instr .div0u ∧ ∃ t, exec .div0u s = .next t ∧ t.q = false ∧ t.m = false ∧ t.t = false ∧
      Completed .div0u s t ∧ Frame s t [] [0, 8, 9] [] [] []) ∧
    (decode 0x0028 w1 = .instr .clrmac ∧ ∃ t, exec .clrmac s = .next t ∧ t.mach = 0 ∧ t.macl = 0 ∧
      Completed .clrmac s t ∧ Frame s t [] [] [.mach, .macl] [] []) ∧
    (decode 0x0048 w1 = .instr .clrs ∧ ∃ t, exec .clrs s = .next t ∧ t.sBit = false ∧
      Completed .clrs s t ∧ Frame s t [] [1] [] [] []) ∧
    (decode 0x0058 w1 = .instr .sets ∧ ∃ t, exec .sets s = .next t ∧ t.sBit = true ∧
      Completed .sets s t ∧ Frame s t [] [1] [] [] []) ∧
    (decode 0x0008 w1 = .instr .clrt ∧ ∃ t, exec .clrt s = .next t ∧ t.t = false ∧
      Completed .clrt s t ∧ Frame s t [] [0] [] [] []) ∧
    (decode 0x0018 w1 = .instr .sett ∧ ∃ t, exec .sett s = .next t ∧ t.t = true ∧
      Completed .sett s t ∧ Frame s t [] [0] [] [] [])

/-! ### Arithmetic, logic and moves -/

/-- MOV of registers and immediates, MOVI24, LDSH16, EXTS, EXTU, MOVT, MOVRT, SWAP, XTRCT, CSELT, MOVA and LEA
(40_data_transfer.md R205 to R213, R252 to R258, R270 to R272; 41_arithmetic.md R314). -/
def Obligations.MoveResults : Prop :=
  ∀ (i : Instr) (s : State) (rn : Reg) (v : Word), moveResult s i = some (rn, v) → Startable i s →
    i.operandsDefined = true →
    ∃ t, exec i s = .next t ∧ t.reg rn = v ∧ Completed i s t ∧ Frame s t [rn] [] [] [] []

/-- ADD, SUB, NEG and MUL into a general register, T unchanged (41_arithmetic.md R300 to R302, R330, R335, R340,
R341). -/
def Obligations.ArithmeticResults : Prop :=
  ∀ (i : Instr) (s : State) (rn : Reg) (v : Word), arithmeticResult s i = some (rn, v) → Startable i s →
    ∃ t, exec i s = .next t ∧ t.reg rn = v ∧ Completed i s t ∧ Frame s t [rn] [] [] [] []

/-- ADDC, ADDV, SUBC, SUBV, NEGC and DT: the register takes the exact value modulo 2^32, T the carry, borrow, overflow or
zero (41_arithmetic.md R303, R304, R320, R336, R342, R343). -/
def Obligations.CarryResults : Prop :=
  ∀ (i : Instr) (s : State) (rn : Reg) (x : Int) (b : Bool), carryResult s i = some (rn, x, b) →
    ∃ t, exec i s = .next t ∧ ((t.reg rn).toNat : Int) = x % 2 ^ 32 ∧ t.t = b ∧ Completed i s t ∧
      Frame s t [rn] [0] [] [] []

/-- The comparisons and tests set T by their relation and change nothing else (41_arithmetic.md R306 to R313;
42_logic_shift.md R357, R358). -/
def Obligations.CompareResults : Prop :=
  ∀ (i : Instr) (s : State) (b : Bool), compareResult s i = some b → Startable i s →
    ∃ t, exec i s = .next t ∧ t.t = b ∧ Completed i s t ∧ Frame s t [] [0] [] [] []

/-- MUL.L, MULS.W, MULU.W, DMULS.L, DMULU.L and CLRMAC: MACL, and MACH where the instruction writes it
(41_arithmetic.md R318, R319, R331 to R333; 44_system.md R450). -/
def Obligations.MultiplyResults : Prop :=
  ∀ (i : Instr) (s : State) (hi : Option Word) (lo : Word), macResult s i = some (hi, lo) →
    ∃ t, exec i s = .next t ∧ t.macl = lo ∧ t.mach = hi.getD s.mach ∧ Completed i s t ∧
      Frame s t [] [] (if hi.isSome then [.mach, .macl] else [.macl]) [] []

/-- DIV0S sets Q, M and T from the signs; DIV1 is one step of the non-restoring division, its carry judged on the exact
sum or difference (41_arithmetic.md R315, R317). -/
def Obligations.DivideResults : Prop :=
  ∀ (m n : Reg) (s : State),
    (∃ t, exec (.div0s m n) s = .next t ∧ t.q = (s.reg n).msb ∧ t.m = (s.reg m).msb ∧
      t.t = ((s.reg n).msb != (s.reg m).msb) ∧ Completed (.div0s m n) s t ∧ Frame s t [] [0, 8, 9] [] [] []) ∧
    (∀ dn d : Int, dn = (2 * (s.reg n).toNat + s.t.toNat : Nat) % 2 ^ 32 →
      d = (if s.q = s.m then dn - (s.reg m).toNat else dn + (s.reg m).toNat) →
      ∃ t, exec (.div1 m n) s = .next t ∧ ((t.reg n).toNat : Int) = d % 2 ^ 32 ∧
        t.q = (((s.reg n).msb != s.m) != decide (d < 0 ∨ 2 ^ 32 ≤ d)) ∧ t.t = (t.q == s.m) ∧
        Completed (.div1 m n) s t ∧ Frame s t [n] [0, 8] [] [] [])

/-- AND, OR, XOR and NOT (42_logic_shift.md R350 to R356, R359 to R361). -/
def Obligations.LogicResults : Prop :=
  ∀ (i : Instr) (s : State) (rn : Reg) (v : Word), logicResult s i = some (rn, v) → Startable i s →
    ∃ t, exec i s = .next t ∧ t.reg rn = v ∧ Completed i s t ∧ Frame s t [rn] [] [] [] []

/-- The one-bit shifts and rotates, with the bit shifted out in T (42_logic_shift.md R363 to R366, R368 to R370,
R376). -/
def Obligations.OneBitShiftResults : Prop :=
  ∀ (i : Instr) (s : State) (rn : Reg) (v : Word) (b : Bool), oneBitResult s i = some (rn, v, b) →
    ∃ t, exec i s = .next t ∧ t.reg rn = v ∧ t.t = b ∧ Completed i s t ∧ Frame s t [rn] [0] [] [] []

/-- The fixed multi-bit shifts and the barrel shifts, T unchanged (42_logic_shift.md R362, R367, R371 to R375, R377 to
R384). -/
def Obligations.BarrelShiftResults : Prop :=
  ∀ (i : Instr) (s : State) (rn : Reg) (v : Word), shiftResult s i = some (rn, v) → Startable i s →
    ∃ t, exec i s = .next t ∧ t.reg rn = v ∧ Completed i s t ∧ Frame s t [rn] [] [] [] []

/-! ### Branches -/

/-- Branches, calls and returns: where execution goes on, at once or after the delay slot; what PR receives; and nothing
else (43_branch.md R400, R402 to R420). -/
def Obligations.BranchResults : Prop :=
  ∀ (i : Instr) (s : State) (f : BranchForm), branchForm s i = some f → Startable i s →
    ∃ t, exec i s = .next t ∧
      (f.delayed = false → t.pc = (if f.taken then f.target else fallThrough i s false) ∧ t.pending = none) ∧
      (f.delayed = true → t.pc = s.pc + i.size ∧
        t.pending = some ⟨if f.taken then f.target else fallThrough i s true, s.pc, s.md⟩) ∧
      t.pr = f.link.getD s.pr ∧
      Frame s t [] [] (if f.link.isSome then [.pr] else []) [] []

/-! ### Loads and stores -/

/-- The loads that step no address register (40_data_transfer.md R202, R223 to R225, R227 to R230, R236, R237, R241 to
R243, R250, R251, R275, R277, R278, R280 to R282, R284). -/
def Obligations.LoadResults : Prop :=
  ∀ (i : Instr) (s : State) (f : LoadForm) (pa : Nat), loadForm s i = some f → Startable i s →
    i.operandsDefined = true → Reaches .read f.width s f.addr pa →
    ∃ t, exec i s = .next t ∧ t.reg f.dest = loadedValue f.width f.signed (valueAt s pa f.width) ∧
      Completed i s t ∧ Frame s t [f.dest] [] [] [] []

/-- The loads that step their address register; where it is also the destination, the loaded value stays
(40_data_transfer.md R201, R231 to R233, R247 to R249). -/
def Obligations.StepLoadResults : Prop :=
  ∀ (i : Instr) (s : State) (f : StepForm) (rn : Reg) (pa : Nat), stepLoadForm s i = some (f, rn) →
    Reaches .read f.width s f.addr pa →
    ∃ t, exec i s = .next t ∧ t.reg rn = loadedValue f.width true (valueAt s pa f.width) ∧
      (f.pointer ≠ rn → t.reg f.pointer = f.after) ∧ Completed i s t ∧ Frame s t [f.pointer, rn] [] [] [] []

/-- The stores that step no address register (40_data_transfer.md R202, R214 to R216, R220 to R222, R226, R234, R235,
R238 to R240, R262, R274, R276, R278, R279, R283). -/
def Obligations.StoreResults : Prop :=
  ∀ (i : Instr) (s : State) (f : StoreForm) (pa : Nat), storeForm s i = some f → Startable i s →
    i.operandsDefined = true → Reaches .write f.width s f.addr pa →
    ∃ t, exec i s = .next t ∧ valueAt t pa f.width = f.width.trunc f.value ∧ Completed i s t ∧
      Frame s t [] [] [] [] (accessBytes f.width pa)

/-- Every load and store, whatever its access reaches: a memory-mapped register, which answers and takes its fields, a
device, which answers anything and is recorded as accessed, or memory. The access finds or takes what the place gives or
holds, and around it the instruction does to the core what it does around an access to memory; so the plain and the
stepping forms, STC.L and STS.L, LDC.L and LDS.L, CAS.L, and FMOV.S of a cell and of a pair, each word of which may reach
a place of its own (10_state.md R45; 20_memory.md R85, R90, R100; log 9, log 11, log 12). The addresses of FMOV.S pairs under
either FMOV_PAIR_SCALE are the model's choice, log 39. -/
def Obligations.RegisterAndDeviceAccesses : Prop :=
  ∀ (i : Instr) (s u : State) (p : Place), Startable i s → i.operandsDefined = true → ModeAllows i s →
    (fpuInstr i = true → FpuOn s) →
    (∀ f, loadForm s i = some f → resolve .read s.md f.width f.addr s = .ok p u →
      ∃ v m t, Finds f.width p v s m ∧ exec i s = .next t ∧ t.reg f.dest = loadedValue f.width f.signed v ∧
        Completed i s t ∧ Frame m t [f.dest] [] [] [] []) ∧
    (∀ f rn, stepLoadForm s i = some (f, rn) → resolve .read s.md f.width f.addr s = .ok p u →
      ∃ v m t, Finds f.width p v s m ∧ exec i s = .next t ∧ t.reg rn = loadedValue f.width true v ∧
        (f.pointer ≠ rn → t.reg f.pointer = f.after) ∧ Completed i s t ∧ Frame m t [f.pointer, rn] [] [] [] []) ∧
    (∀ f, storeForm s i = some f → resolve .write s.md f.width f.addr s = .ok p u → PlaceAccepts s.cfg p f.value →
      ∃ m t, Takes f.width p f.value s m ∧ exec i s = .next t ∧ Completed i s t ∧ Frame m t [] [] [] [] []) ∧
    (∀ f v, stepStoreForm s i = some (f, v) → resolve .write s.md f.width f.addr s = .ok p u →
      PlaceAccepts s.cfg p v →
      ∃ m t, Takes f.width p v s m ∧ exec i s = .next t ∧ t.reg f.pointer = f.after ∧ Completed i s t ∧
        Frame m t [f.pointer] [] [] [] []) ∧
    (∀ rm, loadPointer i = some rm → resolve .read s.md .long (s.reg rm) s = .ok p u →
      ∃ v m t, Finds .long p v s m ∧ exec i s = .next t ∧ Completed i s t ∧
        (∀ x, controlOf i = some x → special t x = v ∧ t.reg rm = s.reg rm + 4 ∧ Frame m t [rm] [] [x] [] []) ∧
        (i = .ldclSr rm → t.sr = v &&& 0x700083F3 ∧ ({ t with sr := s.sr } : State).reg rm = s.reg rm + 4 ∧
          Frame m { t with sr := s.sr } [rm] [] [] [] []) ∧
        (∀ b, i = .ldclBank rm b → t.otherBank b = v ∧ (∀ c, c ≠ b → t.otherBank c = s.otherBank c) ∧
          t.reg rm = s.reg rm + 4 ∧ (∀ q, q ≠ rm → t.reg q = s.reg q) ∧
          Frame m { t with bankA := s.bankA, bankB := s.bankB, high := s.high } [] [] [] [] [])) ∧
    (∀ rm rn, i = .casL rm rn → resolve .write s.md .long (s.reg 0) s = .ok p u →
      ∃ v l, Finds .long p v s l ∧
        (v ≠ s.reg rm → ∃ t, exec i s = .next t ∧ t.reg rn = v ∧ t.t = false ∧ Completed i s t ∧
          Frame l t [rn] [0] [] [] []) ∧
        (v = s.reg rm → PlaceAccepts s.cfg p (s.reg rn) → ∃ m t, Takes .long p (s.reg rn) l m ∧ exec i s = .next t ∧
          t.reg rn = v ∧ t.t = true ∧ Completed i s t ∧ Frame m t [rn] [0] [] [] [])) ∧
    (∀ f, fpLoadForm s i = some f → FpuReady s → resolve .read s.md .long f.addr s = .ok p u →
      (s.sz = false →
        ∃ v m t, Finds .long p v s m ∧ exec i s = .next t ∧ t.fr f.reg = v ∧
          (∀ r, f.step = some r → t.reg r.1 = r.2) ∧ Completed i s t ∧
          Frame m t (f.step.toList.map Prod.fst) [] [] [(s.frBit, f.reg)] []) ∧
      (s.sz = true → PairExists s f.reg → ∀ q x, resolve .read s.md .long (f.addr + 4) u = .ok q x →
        ∃ a b m n t, Finds .long p a s m ∧ Finds .long q b m n ∧ exec i s = .next t ∧
          t.dr f.reg = pairInMemory s a b ∧ (∀ r, f.step = some r → t.reg r.1 = r.2) ∧ Completed i s t ∧
          Frame n t (f.step.toList.map Prod.fst) [] [] (pairCells s f.reg) [])) ∧
    (∀ f, fpStoreForm s i = some f → FpuReady s → resolve .write s.md .long f.addr s = .ok p u →
      (s.sz = false → PlaceAccepts s.cfg p (s.fr f.reg) →
        ∃ m t, Takes .long p (s.fr f.reg) s m ∧ exec i s = .next t ∧ (∀ r, f.step = some r → t.reg r.1 = r.2) ∧
          Completed i s t ∧ Frame m t (f.step.toList.map Prod.fst) [] [] [] []) ∧
      (s.sz = true → PairExists s f.reg → ∀ q x a b, resolve .write s.md .long (f.addr + 4) u = .ok q x →
        pairInMemory s a b = s.dr f.reg → PlaceAccepts s.cfg p a → PlaceAccepts s.cfg q b →
        ∃ m n t, Takes .long p a s m ∧ Takes .long q b m n ∧ exec i s = .next t ∧
          (∀ r, f.step = some r → t.reg r.1 = r.2) ∧ Completed i s t ∧
          Frame n t (f.step.toList.map Prod.fst) [] [] [] []))

/-- The stores that step their address register, STC.L and STS.L among them (40_data_transfer.md R201, R217 to R219, R244
to R246; 44_system.md R431, R442, R443). -/
def Obligations.StepStoreResults : Prop :=
  ∀ (i : Instr) (s : State) (f : StepForm) (v : Word) (pa : Nat), stepStoreForm s i = some (f, v) → ModeAllows i s →
    (fpuInstr i = true → FpuOn s) → Reaches .write f.width s f.addr pa →
    ∃ t, exec i s = .next t ∧ valueAt t pa f.width = f.width.trunc v ∧ t.reg f.pointer = f.after ∧ Completed i s t ∧
      Frame s t [f.pointer] [] [] [] (accessBytes f.width pa)

/-- CAS.L: T says whether the long at R0 equalled Rm; if so Rn's value is stored there, else nothing is; Rn takes the old
long (40_data_transfer.md R260). -/
def Obligations.CompareAndSwapResults : Prop :=
  ∀ (m n : Reg) (s : State) (pa : Nat), Reaches .write .long s (s.reg 0) pa →
    ∃ t, exec (.casL m n) s = .next t ∧ t.reg n = valueAt s pa .long ∧
      t.t = decide (valueAt s pa .long = s.reg m) ∧ Completed (.casL m n) s t ∧
      (valueAt s pa .long = s.reg m → valueAt t pa .long = s.reg n ∧ Frame s t [n] [0] [] [] (accessBytes .long pa)) ∧
      (valueAt s pa .long ≠ s.reg m → Frame s t [n] [0] [] [] [])

/-- PREF and ICBI at an address a byte load could use complete, ICBI making the word fetched fresh; at any other address
they either complete or raise what that load would (40_data_transfer.md R264; 44_system.md R460). -/
def Obligations.CacheInstructions : Prop :=
  ∀ (n : Reg) (s : State),
    (∀ pa u, locate .read s.md .byte (s.reg n) s.drawn = .ok pa u →
      (∃ t, exec (.pref n) s = .next t ∧ Completed (.pref n) s t ∧ Frame s t [] [] [] [] []) ∧
      (∃ t, exec (.icbi n) s = .next t ∧ Completed (.icbi n) s t ∧
        t.stale = dropStale (pa.toNat / 2 * 2) s.stale ∧ Frame s { t with stale := s.stale } [] [] [] [] [])) ∧
    (∀ e u, locate .read s.md .byte (s.reg n) s.drawn = .exc e u →
      (exec (.pref n) s = raise e u ∨ ∃ t, exec (.pref n) s = .next t ∧ Completed (.pref n) s t ∧
        Frame s t [] [] [] [] []) ∧
      (exec (.icbi n) s = raise e u ∨ ∃ t, exec (.icbi n) s = .next t ∧ Completed (.icbi n) s t ∧
        Frame s { t with stale := s.stale } [] [] [] [] []))

/-! ### System and control registers -/

/-- STC and STS into a general register, from the inactive bank too (44_system.md R430, R440, R441). -/
def Obligations.ControlRegisterReads : Prop :=
  ∀ (i : Instr) (s : State) (rn : Reg) (v : Word), storeControlDest i = some rn → controlRead s i = some v →
    ModeAllows i s → (fpuInstr i = true → FpuOn s) →
    ∃ t, exec i s = .next t ∧ t.reg rn = v ∧ Completed i s t ∧ Frame s t [rn] [] [] [] []

/-- LDC, LDS, LDC.L and LDS.L of every register but SR and the bank registers; the `.L` forms step their address register
(44_system.md R432, R433, R444, R446). -/
def Obligations.ControlRegisterWrites : Prop :=
  ∀ (i : Instr) (s : State) (rm : Reg) (x : Special), controlOf i = some x → ModeAllows i s →
    (fpuInstr i = true → FpuOn s) →
    (loadControlSource i = some rm →
      ∃ t, exec i s = .next t ∧ special t x = s.reg rm ∧ Completed i s t ∧ Frame s t [] [] [x] [] []) ∧
    (popPointer i = some rm → ∀ pa, Reaches .read .long s (s.reg rm) pa →
      ∃ t, exec i s = .next t ∧ special t x = valueAt s pa .long ∧ t.reg rm = s.reg rm + 4 ∧ Completed i s t ∧
        Frame s t [rm] [] [x] [] [])

/-- LDC and LDC.L to SR store the value masked, the address register being stepped under the old bank mapping; to a bank
register they write the inactive bank only (44_system.md R444 to R447; 10_state.md R23, R31). -/
def Obligations.StatusAndBankWrites : Prop :=
  ∀ (m : Reg) (b : BReg) (s : State), s.md = true →
    (∃ t, exec (.ldcSr m) s = .next t ∧ t.sr = s.reg m &&& 0x700083F3 ∧ Completed (.ldcSr m) s t ∧
      Frame s { t with sr := s.sr } [] [] [] [] []) ∧
    (∃ t, exec (.ldcBank m b) s = .next t ∧ t.otherBank b = s.reg m ∧ (∀ c, c ≠ b → t.otherBank c = s.otherBank c) ∧
      (∀ q, t.reg q = s.reg q) ∧ Completed (.ldcBank m b) s t ∧
      Frame s { t with bankA := s.bankA, bankB := s.bankB } [] [] [] [] []) ∧
    (∀ pa, Reaches .read .long s (s.reg m) pa →
      (∃ t, exec (.ldclSr m) s = .next t ∧ t.sr = valueAt s pa .long &&& 0x700083F3 ∧
        ({ t with sr := s.sr } : State).reg m = s.reg m + 4 ∧ Completed (.ldclSr m) s t ∧
        Frame s { t with sr := s.sr } [m] [] [] [] []) ∧
      (∃ t, exec (.ldclBank m b) s = .next t ∧ t.otherBank b = valueAt s pa .long ∧
        (∀ c, c ≠ b → t.otherBank c = s.otherBank c) ∧ t.reg m = s.reg m + 4 ∧ (∀ q, q ≠ m → t.reg q = s.reg q) ∧
        Completed (.ldclBank m b) s t ∧
        Frame s { t with bankA := s.bankA, bankB := s.bankB, high := s.high } [] [] [] [] []))

/-- NOTT inverts T; NOP and, in supervisor mode, LDTLB only go on; SLEEP goes on asleep (44_system.md R453, R456, R462,
R468). -/
def Obligations.FlagAndIdleInstructions : Prop :=
  ∀ (s : State) (imm : BitVec 4),
    (∃ t, exec .nott s = .next t ∧ t.t = !s.t ∧ Completed .nott s t ∧ Frame s t [] [0] [] [] []) ∧
    (∃ t, exec (.nop imm) s = .next t ∧ Completed (.nop imm) s t ∧ Frame s t [] [] [] [] []) ∧
    (s.md = true →
      (∃ t, exec .ldtlb s = .next t ∧ Completed .ldtlb s t ∧ Frame s t [] [] [] [] []) ∧
      (∃ t, exec .sleep s = .next t ∧ t.asleep = true ∧ Completed .sleep s t ∧
        Frame s { t with asleep := s.asleep } [] [] [] [] []))

/-- RTE in supervisor mode and outside a delay slot: SR from SSR, masked, R15 from SGR, and SPC as the target after a slot
that is fetched with the mode in force before (44_system.md R470, 60_exceptions.md R618). -/
def Obligations.ReturnFromException : Prop :=
  ∀ (s : State), s.md = true → s.pending = none →
    ∃ t, exec .rte s = .next t ∧ t.sr = s.ssr &&& 0x700083F3 ∧ t.reg 15 = s.sgr ∧
      t.pc = s.pc + 2 ∧ t.pending = some ⟨s.spc, s.pc, true⟩ ∧
      Frame s { t with sr := s.sr } [15] [] [] [] []

/-- TRAPA and BRK take their exception: what they save, record and where they go; TRAPA outside a delay slot
(44_system.md R466, R472). -/
def Obligations.TrapInstructions : Prop :=
  ∀ (s : State) (imm : BitVec 8), s.bl = false →
    (s.pending = none → ∃ t, exec (.trapa imm) s = .next t ∧ TrapEntered s t (s.pc + 2) (s.vbr + 0x100) ∧
      t.expevt = 0x160 ∧ t.traevt.toNat = imm.toNat * 4 ∧ t.tea = s.tea ∧ t.intevt = s.intevt) ∧
    (∃ t, exec .brk s = .next t ∧
      TrapEntered s t (match s.pending with | some p => p.branchPc | none => s.pc) (s.vbr + 0x100) ∧
      t.expevt = 0x1E0 ∧ t.traevt = s.traevt ∧ t.tea = s.tea ∧ t.intevt = s.intevt)

/-! ### Floating point -/

/-- Rounding is right: to nearest, no finite pattern is closer and a tie goes to the even pattern, with infinity from the
overflow bound on; toward zero, the result is the greatest pattern not above the exact magnitude; with DN = 1 a denormal
result is a zero of its sign. Of `round`, over both formats (45_fpu.md R505(a) to (d)). -/
def Obligations.RoundingIsCorrect : Prop :=
  ∀ (f : FpFormat) (toZero dn sign sticky : Bool) (sig : Nat) (e : Int) (exact : ℝ), f = .single ∨ f = .double →
    0 < sig → IsExact f sticky sig e exact →
    RoundsTo f toZero dn (.num sign (if sign then -exact else exact)) (f.round toZero dn sign sticky sig e)

/-- FADD, FSUB, FMUL and FDIV, of two and of three registers, single or double by FPSCR.PR: the destination holds the
exact result of the numbers its operands stand for, rounded as R505 says, or some NaN where there is none, and nothing
else changes (45_fpu.md R503 to R505, R510 to R513, R520). -/
def Obligations.FpArithmeticResults : Prop :=
  ∀ (i : Instr) (s : State) (op : Extended → Extended → Extended) (ra rb rn : FReg),
    fpArithForm i = some (op, ra, rb, rn) → Startable i s → FpuReady s → RoundingSet s → OperandsExist s [ra, rb, rn] →
    ∃ t, exec i s = .next t ∧
      RoundsTo (fpFormat s) (decide (s.rm = 1)) s.dn (op (fpNumber s ra) (fpNumber s rb)) (fpOperand t rn) ∧
      Completed i s t ∧ Frame s t [] [] [] (fpCells s rn) []

/-- FCMPEQ and FCMPGT set T by the numbers compared; a NaN is neither equal to nor greater than anything
(45_fpu.md R505, R514, R515). -/
def Obligations.FpCompareResults : Prop :=
  ∀ (m n : FReg) (s : State), FpuReady s → RoundingSet s → OperandsExist s [m, n] →
    (∃ t, exec (.fcmpEq m n) s = .next t ∧ (t.t = true ↔ NumbersEqual (fpNumber s n) (fpNumber s m)) ∧
      Completed (.fcmpEq m n) s t ∧ Frame s t [] [0] [] [] []) ∧
    (∃ t, exec (.fcmpGt m n) s = .next t ∧ (t.t = true ↔ NumberLess (fpNumber s m) (fpNumber s n)) ∧
      Completed (.fcmpGt m n) s t ∧ Frame s t [] [0] [] [] [])

/-- FNEG, FABS, FLDI0 and FLDI1, single or double by FPSCR.PR (45_fpu.md R503, R505(b), R516, R517, R534, R535). -/
def Obligations.FpSignAndConstantResults : Prop :=
  ∀ (i : Instr) (s : State) (rn : FReg) (v : Word) (d : DWord), fpBitForm s i = some (rn, v, d) → FpuReady s →
    RoundingSet s → OperandsExist s [rn] →
    ∃ t, exec i s = .next t ∧ (if s.prec then t.dr rn = d else t.fr rn = v) ∧ Completed i s t ∧
      Frame s t [] [] [] (fpCells s rn) []

/-- FSQRT: the exact root rounded. FMAC with PR = 0: the exact product plus the addend, rounded once when FMAC_FUSED;
else the product is rounded before the sum is (45_fpu.md R505, R518, R519). -/
def Obligations.FpRootAndAccumulateResults : Prop :=
  ∀ (m n : FReg) (s : State) (toZero : Bool) (a b c : Extended), FpuReady s → RoundingSet s →
    toZero = decide (s.rm = 1) → a = numberOf .single s.dn (s.fr 0).toNat → b = numberOf .single s.dn (s.fr m).toNat →
    c = numberOf .single s.dn (s.fr n).toNat →
    (OperandsExist s [n] → ∃ t, exec (.fsqrt n) s = .next t ∧
      RoundsTo (fpFormat s) toZero s.dn (exactRoot (fpNumber s n)) (fpOperand t n) ∧
      Completed (.fsqrt n) s t ∧ Frame s t [] [] [] (fpCells s n) []) ∧
    (s.prec = false → ∃ t, exec (.fmac m n) s = .next t ∧
      (s.cfg.fmacFused = true →
        RoundsTo .single toZero s.dn (exactSum (exactProduct a b) c) (t.fr n).toNat) ∧
      (s.cfg.fmacFused = false → ∃ product, RoundsTo .single toZero s.dn (exactProduct a b) product ∧
        RoundsTo .single toZero s.dn (exactSum (numberOf .single s.dn product) c) (t.fr n).toNat) ∧
      Completed (.fmac m n) s t ∧ Frame s t [] [] [] [(s.frBit, n)] [])

/-- FLOAT: the integer rounded to the format. FTRC: the number without its fraction; out of its range any value (log 37).
FCNVSD and FCNVDS: the number rounded to the other format, or some NaN (45_fpu.md R505, R532, R533, R536, R545). That FTRC
and FCNVSD complete under RM 2 and 3 too, where R505(b) and U16 have a model refuse arithmetic and R503 lists FTRC among
it, is the model's choice, log 35. -/
def Obligations.FpConversionResults : Prop :=
  ∀ (n : FReg) (s : State), FpuReady s → OperandsExist s [n] →
    (RoundingSet s → ∃ t, exec (.float n) s = .next t ∧
      RoundsTo (fpFormat s) (decide (s.rm = 1)) s.dn (numberOfInt s.fpul.toInt) (fpOperand t n) ∧
      Completed (.float n) s t ∧ Frame s t [] [] [] (fpCells s n) []) ∧
    (∃ t, exec (.ftrc n) s = .next t ∧
      (∀ sign x, fpNumber s n = .num sign x → -2 ^ 31 ≤ wholePart x → wholePart x < 2 ^ 31 →
        t.fpul.toInt = wholePart x) ∧
      Completed (.ftrc n) s t ∧ Frame s t [] [] [.fpul] [] []) ∧
    (s.prec = true → ∃ t, exec (.fcnvsd n) s = .next t ∧
      RoundsTo .double (decide (s.rm = 1)) s.dn (numberOf .single s.dn s.fpul.toNat) (t.dr n).toNat ∧
      Completed (.fcnvsd n) s t ∧ Frame s t [] [] [] (pairCells s n) []) ∧
    (s.prec = true → RoundingSet s → ∃ t, exec (.fcnvds n) s = .next t ∧
      RoundsTo .single (decide (s.rm = 1)) s.dn (numberOf .double s.dn (s.dr n).toNat) t.fpul.toNat ∧
      Completed (.fcnvds n) s t ∧ Frame s t [] [] [.fpul] [] [])

/-- FMOV copies a cell, or with SZ = 1 a pair; FSTS and FLDS copy a cell from and to FPUL; LDIF16 sets FPUL
(45_fpu.md R521, R530, R531, R538). -/
def Obligations.FpMoveResults : Prop :=
  ∀ (m n : FReg) (imm : BitVec 16) (s : State), FpuReady s →
    (s.sz = false → ∃ t, exec (.fmov m n) s = .next t ∧ t.fr n = s.fr m ∧ Completed (.fmov m n) s t ∧
      Frame s t [] [] [] [(s.frBit, n)] []) ∧
    (s.sz = true → PairExists s m → PairExists s n → ∃ t, exec (.fmov m n) s = .next t ∧ t.dr n = s.dr m ∧
      Completed (.fmov m n) s t ∧ Frame s t [] [] [] (pairCells s n) []) ∧
    (∃ t, exec (.fsts n) s = .next t ∧ t.fr n = s.fpul ∧ Completed (.fsts n) s t ∧
      Frame s t [] [] [] [(s.frBit, n)] []) ∧
    (∃ t, exec (.flds m) s = .next t ∧ t.fpul = s.fr m ∧ Completed (.flds m) s t ∧ Frame s t [] [] [.fpul] [] []) ∧
    (s.pending = none → ∃ t, exec (.ldif16 imm) s = .next t ∧ t.fpul.toNat = imm.toNat * 2 ^ 16 ∧
      Completed (.ldif16 imm) s t ∧ Frame s t [] [] [.fpul] [] [])

/-- FMOV.S loads of a cell, or with SZ = 1 of a pair whose words stand in the order R522 gives; the post-increment form
steps its address register (45_fpu.md R522, R523, R527 to R529). With SZ = 1 the displacement and scaled-index forms run
under either FMOV_PAIR_SCALE, where R522 (D45) has a model refuse what depends on it: the model's choice, log 39. -/
def Obligations.FpLoadResults : Prop :=
  ∀ (i : Instr) (s : State) (f : FpAccessForm) (pa pb : Nat), fpLoadForm s i = some f → Startable i s → FpuReady s →
    i.operandsDefined = true →
    (s.sz = false → Reaches .read .long s f.addr pa →
      ∃ t, exec i s = .next t ∧ t.fr f.reg = valueAt s pa .long ∧ (∀ p, f.step = some p → t.reg p.1 = p.2) ∧
        Completed i s t ∧ Frame s t (f.step.toList.map Prod.fst) [] [] [(s.frBit, f.reg)] []) ∧
    (s.sz = true → PairExists s f.reg → ReachesPair .read s f.addr pa pb →
      ∃ t, exec i s = .next t ∧ t.dr f.reg = pairInMemory s (valueAt s pa .long) (valueAt s pb .long) ∧
        (∀ p, f.step = some p → t.reg p.1 = p.2) ∧
        Completed i s t ∧ Frame s t (f.step.toList.map Prod.fst) [] [] (pairCells s f.reg) [])

/-- FMOV.S stores of a cell, or with SZ = 1 of a pair; the pre-decrement form steps its address register
(45_fpu.md R522, R523, R526, R528, R529). With SZ = 1 the displacement and scaled-index forms run under either
FMOV_PAIR_SCALE, where R522 (D45) has a model refuse what depends on it: the model's choice, log 39. -/
def Obligations.FpStoreResults : Prop :=
  ∀ (i : Instr) (s : State) (f : FpAccessForm) (pa pb : Nat), fpStoreForm s i = some f → Startable i s → FpuReady s →
    i.operandsDefined = true →
    (s.sz = false → Reaches .write .long s f.addr pa →
      ∃ t, exec i s = .next t ∧ valueAt t pa .long = s.fr f.reg ∧ (∀ p, f.step = some p → t.reg p.1 = p.2) ∧
        Completed i s t ∧ Frame s t (f.step.toList.map Prod.fst) [] [] [] (accessBytes .long pa)) ∧
    (s.sz = true → PairExists s f.reg → ReachesPair .write s f.addr pa pb →
      ∃ t, exec i s = .next t ∧ pairInMemory s (valueAt t pa .long) (valueAt t pb .long) = s.dr f.reg ∧
        (∀ p, f.step = some p → t.reg p.1 = p.2) ∧ Completed i s t ∧
        Frame s t (f.step.toList.map Prod.fst) [] [] [] (accessBytes .long pa ++ accessBytes .long pb))

/-- LDHF16 of a register and of an immediate, and STHF16 with the rounding the implementation fixes, or either neighbour
where it fixes none; an immediate that R537 leaves undefined stops (45_fpu.md R537, R539). -/
def Obligations.HalfPrecisionResults : Prop :=
  ∀ (r : Reg) (imm h : Half) (s : State), FpuOn s → h = (s.reg r).setWidth 16 →
    (∃ t, exec (.ldhf16 r) s = .next t ∧
      (if h.toNat % 2 ^ 15 = 0 then t.fpul.toNat = h.toNat * 2 ^ 16
        else if h.toNat / 2 ^ 10 % 32 = 31 then
          if h.toNat % 2 ^ 10 = 0 then t.fpul.toNat = h.toNat / 2 ^ 15 * 2 ^ 31 + 0x7F800000
          else FpFormat.isNan .single t.fpul.toNat = true
        else t.fpul.toNat = h.toNat / 2 ^ 15 * 2 ^ 31 + h.toNat % 2 ^ 15 * 2 ^ 13 + 112 * 2 ^ 23) ∧
      Completed (.ldhf16 r) s t ∧ Frame s t [] [] [.fpul] [] []) ∧
    (s.pending = none →
      if imm.toNat / 2 ^ 10 % 32 = 31 ∨ (imm.toNat / 2 ^ 10 % 32 = 0 ∧ imm.toNat % 2 ^ 10 ≠ 0) then
        exec (.ldhf16Imm imm) s = .refused .undefinedHalfImmediate
      else ∃ t, exec (.ldhf16Imm imm) s = .next t ∧
        t.fpul.toNat = imm.toNat / 2 ^ 15 * 2 ^ 31 + imm.toNat % 2 ^ 15 * 2 ^ 13 + 112 * 2 ^ 23 ∧
        Completed (.ldhf16Imm imm) s t ∧ Frame s t [] [] [.fpul] [] []) ∧
    (∃ t up, exec (.sthf16 r) s = .next t ∧ (t.reg r).toNat = halfOf s.fpul up ∧
      (match halfUp s.cfg.sthf16Round s.fpul with
        | some u => up = u
        | none => up = 0 ∨ (up = 1 ∧ s.fpul.toNat % 2 ^ 13 ≠ 0)) ∧
      Completed (.sthf16 r) s t ∧ Frame s t [r] [] [] [] [])

/-- PSETMD, FSCHG, FPCHG and FRCHG: every bit of FPSCR after them (45_fpu.md R501, R540, R542 to R544). -/
def Obligations.FpModeResults : Prop :=
  ∀ (i : Instr) (s : State), (fpModeBit s i 0).isSome = true → FpuOn s → BankSelectable s i →
    ∃ t, exec i s = .next t ∧ (∀ n < 32, fpModeBit s i n = some (t.fpscr.getLsbD n)) ∧ Completed i s t ∧
      Frame s t [] [] [.fpscr] [] []
end

