-- ==== Sys2Proof/Laws/State.lean ====
section
/-! SUPPORT. One lemma for each field after each named update of the state, true by `rfl`. Fields that an update changes
by cases (a register in its bank, a cell, a memory-mapped register) are read through the accessors, in Laws/Ops.lean. -/

namespace Sys2Proof.Machine

/-! ### `setT` -/

@[simp] theorem State.setT_bankA (s : State) (b : Bool) : (s.setT b).bankA = s.bankA := rfl
@[simp] theorem State.setT_bankB (s : State) (b : Bool) : (s.setT b).bankB = s.bankB := rfl
@[simp] theorem State.setT_high (s : State) (b : Bool) : (s.setT b).high = s.high := rfl
@[simp] theorem State.setT_pc (s : State) (b : Bool) : (s.setT b).pc = s.pc := rfl
@[simp] theorem State.setT_pending (s : State) (b : Bool) : (s.setT b).pending = s.pending := rfl
@[simp] theorem State.setT_sr (s : State) (b : Bool) : (s.setT b).sr = setBit s.sr 0 b := rfl
@[simp] theorem State.setT_gbr (s : State) (b : Bool) : (s.setT b).gbr = s.gbr := rfl
@[simp] theorem State.setT_vbr (s : State) (b : Bool) : (s.setT b).vbr = s.vbr := rfl
@[simp] theorem State.setT_ssr (s : State) (b : Bool) : (s.setT b).ssr = s.ssr := rfl
@[simp] theorem State.setT_spc (s : State) (b : Bool) : (s.setT b).spc = s.spc := rfl
@[simp] theorem State.setT_sgr (s : State) (b : Bool) : (s.setT b).sgr = s.sgr := rfl
@[simp] theorem State.setT_dbr (s : State) (b : Bool) : (s.setT b).dbr = s.dbr := rfl
@[simp] theorem State.setT_mach (s : State) (b : Bool) : (s.setT b).mach = s.mach := rfl
@[simp] theorem State.setT_macl (s : State) (b : Bool) : (s.setT b).macl = s.macl := rfl
@[simp] theorem State.setT_pr (s : State) (b : Bool) : (s.setT b).pr = s.pr := rfl
@[simp] theorem State.setT_fpul (s : State) (b : Bool) : (s.setT b).fpul = s.fpul := rfl
@[simp] theorem State.setT_fpscr (s : State) (b : Bool) : (s.setT b).fpscr = s.fpscr := rfl
@[simp] theorem State.setT_fa (s : State) (b : Bool) : (s.setT b).fa = s.fa := rfl
@[simp] theorem State.setT_fb (s : State) (b : Bool) : (s.setT b).fb = s.fb := rfl
@[simp] theorem State.setT_pteh (s : State) (b : Bool) : (s.setT b).pteh = s.pteh := rfl
@[simp] theorem State.setT_ptel (s : State) (b : Bool) : (s.setT b).ptel = s.ptel := rfl
@[simp] theorem State.setT_ttb (s : State) (b : Bool) : (s.setT b).ttb = s.ttb := rfl
@[simp] theorem State.setT_tea (s : State) (b : Bool) : (s.setT b).tea = s.tea := rfl
@[simp] theorem State.setT_mmucr (s : State) (b : Bool) : (s.setT b).mmucr = s.mmucr := rfl
@[simp] theorem State.setT_traevt (s : State) (b : Bool) : (s.setT b).traevt = s.traevt := rfl
@[simp] theorem State.setT_expevt (s : State) (b : Bool) : (s.setT b).expevt = s.expevt := rfl
@[simp] theorem State.setT_intevt (s : State) (b : Bool) : (s.setT b).intevt = s.intevt := rfl
@[simp] theorem State.setT_mem (s : State) (b : Bool) : (s.setT b).mem = s.mem := rfl
@[simp] theorem State.setT_stale (s : State) (b : Bool) : (s.setT b).stale = s.stale := rfl
@[simp] theorem State.setT_asleep (s : State) (b : Bool) : (s.setT b).asleep = s.asleep := rfl
@[simp] theorem State.setT_events (s : State) (b : Bool) : (s.setT b).events = s.events := rfl
@[simp] theorem State.setT_free (s : State) (b : Bool) : (s.setT b).free = s.free := rfl
@[simp] theorem State.setT_devLog (s : State) (b : Bool) : (s.setT b).devLog = s.devLog := rfl
@[simp] theorem State.setT_cfg (s : State) (b : Bool) : (s.setT b).cfg = s.cfg := rfl

/-! ### `setS` -/

@[simp] theorem State.setS_bankA (s : State) (b : Bool) : (s.setS b).bankA = s.bankA := rfl
@[simp] theorem State.setS_bankB (s : State) (b : Bool) : (s.setS b).bankB = s.bankB := rfl
@[simp] theorem State.setS_high (s : State) (b : Bool) : (s.setS b).high = s.high := rfl
@[simp] theorem State.setS_pc (s : State) (b : Bool) : (s.setS b).pc = s.pc := rfl
@[simp] theorem State.setS_pending (s : State) (b : Bool) : (s.setS b).pending = s.pending := rfl
@[simp] theorem State.setS_sr (s : State) (b : Bool) : (s.setS b).sr = setBit s.sr 1 b := rfl
@[simp] theorem State.setS_gbr (s : State) (b : Bool) : (s.setS b).gbr = s.gbr := rfl
@[simp] theorem State.setS_vbr (s : State) (b : Bool) : (s.setS b).vbr = s.vbr := rfl
@[simp] theorem State.setS_ssr (s : State) (b : Bool) : (s.setS b).ssr = s.ssr := rfl
@[simp] theorem State.setS_spc (s : State) (b : Bool) : (s.setS b).spc = s.spc := rfl
@[simp] theorem State.setS_sgr (s : State) (b : Bool) : (s.setS b).sgr = s.sgr := rfl
@[simp] theorem State.setS_dbr (s : State) (b : Bool) : (s.setS b).dbr = s.dbr := rfl
@[simp] theorem State.setS_mach (s : State) (b : Bool) : (s.setS b).mach = s.mach := rfl
@[simp] theorem State.setS_macl (s : State) (b : Bool) : (s.setS b).macl = s.macl := rfl
@[simp] theorem State.setS_pr (s : State) (b : Bool) : (s.setS b).pr = s.pr := rfl
@[simp] theorem State.setS_fpul (s : State) (b : Bool) : (s.setS b).fpul = s.fpul := rfl
@[simp] theorem State.setS_fpscr (s : State) (b : Bool) : (s.setS b).fpscr = s.fpscr := rfl
@[simp] theorem State.setS_fa (s : State) (b : Bool) : (s.setS b).fa = s.fa := rfl
@[simp] theorem State.setS_fb (s : State) (b : Bool) : (s.setS b).fb = s.fb := rfl
@[simp] theorem State.setS_pteh (s : State) (b : Bool) : (s.setS b).pteh = s.pteh := rfl
@[simp] theorem State.setS_ptel (s : State) (b : Bool) : (s.setS b).ptel = s.ptel := rfl
@[simp] theorem State.setS_ttb (s : State) (b : Bool) : (s.setS b).ttb = s.ttb := rfl
@[simp] theorem State.setS_tea (s : State) (b : Bool) : (s.setS b).tea = s.tea := rfl
@[simp] theorem State.setS_mmucr (s : State) (b : Bool) : (s.setS b).mmucr = s.mmucr := rfl
@[simp] theorem State.setS_traevt (s : State) (b : Bool) : (s.setS b).traevt = s.traevt := rfl
@[simp] theorem State.setS_expevt (s : State) (b : Bool) : (s.setS b).expevt = s.expevt := rfl
@[simp] theorem State.setS_intevt (s : State) (b : Bool) : (s.setS b).intevt = s.intevt := rfl
@[simp] theorem State.setS_mem (s : State) (b : Bool) : (s.setS b).mem = s.mem := rfl
@[simp] theorem State.setS_stale (s : State) (b : Bool) : (s.setS b).stale = s.stale := rfl
@[simp] theorem State.setS_asleep (s : State) (b : Bool) : (s.setS b).asleep = s.asleep := rfl
@[simp] theorem State.setS_events (s : State) (b : Bool) : (s.setS b).events = s.events := rfl
@[simp] theorem State.setS_free (s : State) (b : Bool) : (s.setS b).free = s.free := rfl
@[simp] theorem State.setS_devLog (s : State) (b : Bool) : (s.setS b).devLog = s.devLog := rfl
@[simp] theorem State.setS_cfg (s : State) (b : Bool) : (s.setS b).cfg = s.cfg := rfl

/-! ### `setQMT` -/

@[simp] theorem State.setQMT_bankA (s : State) (q m t : Bool) : (s.setQMT q m t).bankA = s.bankA := rfl
@[simp] theorem State.setQMT_bankB (s : State) (q m t : Bool) : (s.setQMT q m t).bankB = s.bankB := rfl
@[simp] theorem State.setQMT_high (s : State) (q m t : Bool) : (s.setQMT q m t).high = s.high := rfl
@[simp] theorem State.setQMT_pc (s : State) (q m t : Bool) : (s.setQMT q m t).pc = s.pc := rfl
@[simp] theorem State.setQMT_pending (s : State) (q m t : Bool) : (s.setQMT q m t).pending = s.pending := rfl
@[simp] theorem State.setQMT_sr (s : State) (q m t : Bool) : (s.setQMT q m t).sr = setBit (setBit (setBit s.sr 8 q) 9 m) 0 t := rfl
@[simp] theorem State.setQMT_gbr (s : State) (q m t : Bool) : (s.setQMT q m t).gbr = s.gbr := rfl
@[simp] theorem State.setQMT_vbr (s : State) (q m t : Bool) : (s.setQMT q m t).vbr = s.vbr := rfl
@[simp] theorem State.setQMT_ssr (s : State) (q m t : Bool) : (s.setQMT q m t).ssr = s.ssr := rfl
@[simp] theorem State.setQMT_spc (s : State) (q m t : Bool) : (s.setQMT q m t).spc = s.spc := rfl
@[simp] theorem State.setQMT_sgr (s : State) (q m t : Bool) : (s.setQMT q m t).sgr = s.sgr := rfl
@[simp] theorem State.setQMT_dbr (s : State) (q m t : Bool) : (s.setQMT q m t).dbr = s.dbr := rfl
@[simp] theorem State.setQMT_mach (s : State) (q m t : Bool) : (s.setQMT q m t).mach = s.mach := rfl
@[simp] theorem State.setQMT_macl (s : State) (q m t : Bool) : (s.setQMT q m t).macl = s.macl := rfl
@[simp] theorem State.setQMT_pr (s : State) (q m t : Bool) : (s.setQMT q m t).pr = s.pr := rfl
@[simp] theorem State.setQMT_fpul (s : State) (q m t : Bool) : (s.setQMT q m t).fpul = s.fpul := rfl
@[simp] theorem State.setQMT_fpscr (s : State) (q m t : Bool) : (s.setQMT q m t).fpscr = s.fpscr := rfl
@[simp] theorem State.setQMT_fa (s : State) (q m t : Bool) : (s.setQMT q m t).fa = s.fa := rfl
@[simp] theorem State.setQMT_fb (s : State) (q m t : Bool) : (s.setQMT q m t).fb = s.fb := rfl
@[simp] theorem State.setQMT_pteh (s : State) (q m t : Bool) : (s.setQMT q m t).pteh = s.pteh := rfl
@[simp] theorem State.setQMT_ptel (s : State) (q m t : Bool) : (s.setQMT q m t).ptel = s.ptel := rfl
@[simp] theorem State.setQMT_ttb (s : State) (q m t : Bool) : (s.setQMT q m t).ttb = s.ttb := rfl
@[simp] theorem State.setQMT_tea (s : State) (q m t : Bool) : (s.setQMT q m t).tea = s.tea := rfl
@[simp] theorem State.setQMT_mmucr (s : State) (q m t : Bool) : (s.setQMT q m t).mmucr = s.mmucr := rfl
@[simp] theorem State.setQMT_traevt (s : State) (q m t : Bool) : (s.setQMT q m t).traevt = s.traevt := rfl
@[simp] theorem State.setQMT_expevt (s : State) (q m t : Bool) : (s.setQMT q m t).expevt = s.expevt := rfl
@[simp] theorem State.setQMT_intevt (s : State) (q m t : Bool) : (s.setQMT q m t).intevt = s.intevt := rfl
@[simp] theorem State.setQMT_mem (s : State) (q m t : Bool) : (s.setQMT q m t).mem = s.mem := rfl
@[simp] theorem State.setQMT_stale (s : State) (q m t : Bool) : (s.setQMT q m t).stale = s.stale := rfl
@[simp] theorem State.setQMT_asleep (s : State) (q m t : Bool) : (s.setQMT q m t).asleep = s.asleep := rfl
@[simp] theorem State.setQMT_events (s : State) (q m t : Bool) : (s.setQMT q m t).events = s.events := rfl
@[simp] theorem State.setQMT_free (s : State) (q m t : Bool) : (s.setQMT q m t).free = s.free := rfl
@[simp] theorem State.setQMT_devLog (s : State) (q m t : Bool) : (s.setQMT q m t).devLog = s.devLog := rfl
@[simp] theorem State.setQMT_cfg (s : State) (q m t : Bool) : (s.setQMT q m t).cfg = s.cfg := rfl

/-! ### `setSr` -/

@[simp] theorem State.setSr_bankA (s : State) (v : Word) : (s.setSr v).bankA = s.bankA := rfl
@[simp] theorem State.setSr_bankB (s : State) (v : Word) : (s.setSr v).bankB = s.bankB := rfl
@[simp] theorem State.setSr_high (s : State) (v : Word) : (s.setSr v).high = s.high := rfl
@[simp] theorem State.setSr_pc (s : State) (v : Word) : (s.setSr v).pc = s.pc := rfl
@[simp] theorem State.setSr_pending (s : State) (v : Word) : (s.setSr v).pending = s.pending := rfl
@[simp] theorem State.setSr_sr (s : State) (v : Word) : (s.setSr v).sr = v &&& srMask := rfl
@[simp] theorem State.setSr_gbr (s : State) (v : Word) : (s.setSr v).gbr = s.gbr := rfl
@[simp] theorem State.setSr_vbr (s : State) (v : Word) : (s.setSr v).vbr = s.vbr := rfl
@[simp] theorem State.setSr_ssr (s : State) (v : Word) : (s.setSr v).ssr = s.ssr := rfl
@[simp] theorem State.setSr_spc (s : State) (v : Word) : (s.setSr v).spc = s.spc := rfl
@[simp] theorem State.setSr_sgr (s : State) (v : Word) : (s.setSr v).sgr = s.sgr := rfl
@[simp] theorem State.setSr_dbr (s : State) (v : Word) : (s.setSr v).dbr = s.dbr := rfl
@[simp] theorem State.setSr_mach (s : State) (v : Word) : (s.setSr v).mach = s.mach := rfl
@[simp] theorem State.setSr_macl (s : State) (v : Word) : (s.setSr v).macl = s.macl := rfl
@[simp] theorem State.setSr_pr (s : State) (v : Word) : (s.setSr v).pr = s.pr := rfl
@[simp] theorem State.setSr_fpul (s : State) (v : Word) : (s.setSr v).fpul = s.fpul := rfl
@[simp] theorem State.setSr_fpscr (s : State) (v : Word) : (s.setSr v).fpscr = s.fpscr := rfl
@[simp] theorem State.setSr_fa (s : State) (v : Word) : (s.setSr v).fa = s.fa := rfl
@[simp] theorem State.setSr_fb (s : State) (v : Word) : (s.setSr v).fb = s.fb := rfl
@[simp] theorem State.setSr_pteh (s : State) (v : Word) : (s.setSr v).pteh = s.pteh := rfl
@[simp] theorem State.setSr_ptel (s : State) (v : Word) : (s.setSr v).ptel = s.ptel := rfl
@[simp] theorem State.setSr_ttb (s : State) (v : Word) : (s.setSr v).ttb = s.ttb := rfl
@[simp] theorem State.setSr_tea (s : State) (v : Word) : (s.setSr v).tea = s.tea := rfl
@[simp] theorem State.setSr_mmucr (s : State) (v : Word) : (s.setSr v).mmucr = s.mmucr := rfl
@[simp] theorem State.setSr_traevt (s : State) (v : Word) : (s.setSr v).traevt = s.traevt := rfl
@[simp] theorem State.setSr_expevt (s : State) (v : Word) : (s.setSr v).expevt = s.expevt := rfl
@[simp] theorem State.setSr_intevt (s : State) (v : Word) : (s.setSr v).intevt = s.intevt := rfl
@[simp] theorem State.setSr_mem (s : State) (v : Word) : (s.setSr v).mem = s.mem := rfl
@[simp] theorem State.setSr_stale (s : State) (v : Word) : (s.setSr v).stale = s.stale := rfl
@[simp] theorem State.setSr_asleep (s : State) (v : Word) : (s.setSr v).asleep = s.asleep := rfl
@[simp] theorem State.setSr_events (s : State) (v : Word) : (s.setSr v).events = s.events := rfl
@[simp] theorem State.setSr_free (s : State) (v : Word) : (s.setSr v).free = s.free := rfl
@[simp] theorem State.setSr_devLog (s : State) (v : Word) : (s.setSr v).devLog = s.devLog := rfl
@[simp] theorem State.setSr_cfg (s : State) (v : Word) : (s.setSr v).cfg = s.cfg := rfl

/-! ### `setReg` -/

@[simp] theorem State.setReg_pc (s : State) (r : Reg) (v : Word) : (s.setReg r v).pc = s.pc := rfl
@[simp] theorem State.setReg_pending (s : State) (r : Reg) (v : Word) : (s.setReg r v).pending = s.pending := rfl
@[simp] theorem State.setReg_sr (s : State) (r : Reg) (v : Word) : (s.setReg r v).sr = s.sr := rfl
@[simp] theorem State.setReg_gbr (s : State) (r : Reg) (v : Word) : (s.setReg r v).gbr = s.gbr := rfl
@[simp] theorem State.setReg_vbr (s : State) (r : Reg) (v : Word) : (s.setReg r v).vbr = s.vbr := rfl
@[simp] theorem State.setReg_ssr (s : State) (r : Reg) (v : Word) : (s.setReg r v).ssr = s.ssr := rfl
@[simp] theorem State.setReg_spc (s : State) (r : Reg) (v : Word) : (s.setReg r v).spc = s.spc := rfl
@[simp] theorem State.setReg_sgr (s : State) (r : Reg) (v : Word) : (s.setReg r v).sgr = s.sgr := rfl
@[simp] theorem State.setReg_dbr (s : State) (r : Reg) (v : Word) : (s.setReg r v).dbr = s.dbr := rfl
@[simp] theorem State.setReg_mach (s : State) (r : Reg) (v : Word) : (s.setReg r v).mach = s.mach := rfl
@[simp] theorem State.setReg_macl (s : State) (r : Reg) (v : Word) : (s.setReg r v).macl = s.macl := rfl
@[simp] theorem State.setReg_pr (s : State) (r : Reg) (v : Word) : (s.setReg r v).pr = s.pr := rfl
@[simp] theorem State.setReg_fpul (s : State) (r : Reg) (v : Word) : (s.setReg r v).fpul = s.fpul := rfl
@[simp] theorem State.setReg_fpscr (s : State) (r : Reg) (v : Word) : (s.setReg r v).fpscr = s.fpscr := rfl
@[simp] theorem State.setReg_fa (s : State) (r : Reg) (v : Word) : (s.setReg r v).fa = s.fa := rfl
@[simp] theorem State.setReg_fb (s : State) (r : Reg) (v : Word) : (s.setReg r v).fb = s.fb := rfl
@[simp] theorem State.setReg_pteh (s : State) (r : Reg) (v : Word) : (s.setReg r v).pteh = s.pteh := rfl
@[simp] theorem State.setReg_ptel (s : State) (r : Reg) (v : Word) : (s.setReg r v).ptel = s.ptel := rfl
@[simp] theorem State.setReg_ttb (s : State) (r : Reg) (v : Word) : (s.setReg r v).ttb = s.ttb := rfl
@[simp] theorem State.setReg_tea (s : State) (r : Reg) (v : Word) : (s.setReg r v).tea = s.tea := rfl
@[simp] theorem State.setReg_mmucr (s : State) (r : Reg) (v : Word) : (s.setReg r v).mmucr = s.mmucr := rfl
@[simp] theorem State.setReg_traevt (s : State) (r : Reg) (v : Word) : (s.setReg r v).traevt = s.traevt := rfl
@[simp] theorem State.setReg_expevt (s : State) (r : Reg) (v : Word) : (s.setReg r v).expevt = s.expevt := rfl
@[simp] theorem State.setReg_intevt (s : State) (r : Reg) (v : Word) : (s.setReg r v).intevt = s.intevt := rfl
@[simp] theorem State.setReg_mem (s : State) (r : Reg) (v : Word) : (s.setReg r v).mem = s.mem := rfl
@[simp] theorem State.setReg_stale (s : State) (r : Reg) (v : Word) : (s.setReg r v).stale = s.stale := rfl
@[simp] theorem State.setReg_asleep (s : State) (r : Reg) (v : Word) : (s.setReg r v).asleep = s.asleep := rfl
@[simp] theorem State.setReg_events (s : State) (r : Reg) (v : Word) : (s.setReg r v).events = s.events := rfl
@[simp] theorem State.setReg_free (s : State) (r : Reg) (v : Word) : (s.setReg r v).free = s.free := rfl
@[simp] theorem State.setReg_devLog (s : State) (r : Reg) (v : Word) : (s.setReg r v).devLog = s.devLog := rfl
@[simp] theorem State.setReg_cfg (s : State) (r : Reg) (v : Word) : (s.setReg r v).cfg = s.cfg := rfl

/-! ### `setOtherBank` -/

@[simp] theorem State.setOtherBank_high (s : State) (b : BReg) (v : Word) : (s.setOtherBank b v).high = s.high := rfl
@[simp] theorem State.setOtherBank_pc (s : State) (b : BReg) (v : Word) : (s.setOtherBank b v).pc = s.pc := rfl
@[simp] theorem State.setOtherBank_pending (s : State) (b : BReg) (v : Word) : (s.setOtherBank b v).pending = s.pending := rfl
@[simp] theorem State.setOtherBank_sr (s : State) (b : BReg) (v : Word) : (s.setOtherBank b v).sr = s.sr := rfl
@[simp] theorem State.setOtherBank_gbr (s : State) (b : BReg) (v : Word) : (s.setOtherBank b v).gbr = s.gbr := rfl
@[simp] theorem State.setOtherBank_vbr (s : State) (b : BReg) (v : Word) : (s.setOtherBank b v).vbr = s.vbr := rfl
@[simp] theorem State.setOtherBank_ssr (s : State) (b : BReg) (v : Word) : (s.setOtherBank b v).ssr = s.ssr := rfl
@[simp] theorem State.setOtherBank_spc (s : State) (b : BReg) (v : Word) : (s.setOtherBank b v).spc = s.spc := rfl
@[simp] theorem State.setOtherBank_sgr (s : State) (b : BReg) (v : Word) : (s.setOtherBank b v).sgr = s.sgr := rfl
@[simp] theorem State.setOtherBank_dbr (s : State) (b : BReg) (v : Word) : (s.setOtherBank b v).dbr = s.dbr := rfl
@[simp] theorem State.setOtherBank_mach (s : State) (b : BReg) (v : Word) : (s.setOtherBank b v).mach = s.mach := rfl
@[simp] theorem State.setOtherBank_macl (s : State) (b : BReg) (v : Word) : (s.setOtherBank b v).macl = s.macl := rfl
@[simp] theorem State.setOtherBank_pr (s : State) (b : BReg) (v : Word) : (s.setOtherBank b v).pr = s.pr := rfl
@[simp] theorem State.setOtherBank_fpul (s : State) (b : BReg) (v : Word) : (s.setOtherBank b v).fpul = s.fpul := rfl
@[simp] theorem State.setOtherBank_fpscr (s : State) (b : BReg) (v : Word) : (s.setOtherBank b v).fpscr = s.fpscr := rfl
@[simp] theorem State.setOtherBank_fa (s : State) (b : BReg) (v : Word) : (s.setOtherBank b v).fa = s.fa := rfl
@[simp] theorem State.setOtherBank_fb (s : State) (b : BReg) (v : Word) : (s.setOtherBank b v).fb = s.fb := rfl
@[simp] theorem State.setOtherBank_pteh (s : State) (b : BReg) (v : Word) : (s.setOtherBank b v).pteh = s.pteh := rfl
@[simp] theorem State.setOtherBank_ptel (s : State) (b : BReg) (v : Word) : (s.setOtherBank b v).ptel = s.ptel := rfl
@[simp] theorem State.setOtherBank_ttb (s : State) (b : BReg) (v : Word) : (s.setOtherBank b v).ttb = s.ttb := rfl
@[simp] theorem State.setOtherBank_tea (s : State) (b : BReg) (v : Word) : (s.setOtherBank b v).tea = s.tea := rfl
@[simp] theorem State.setOtherBank_mmucr (s : State) (b : BReg) (v : Word) : (s.setOtherBank b v).mmucr = s.mmucr := rfl
@[simp] theorem State.setOtherBank_traevt (s : State) (b : BReg) (v : Word) : (s.setOtherBank b v).traevt = s.traevt := rfl
@[simp] theorem State.setOtherBank_expevt (s : State) (b : BReg) (v : Word) : (s.setOtherBank b v).expevt = s.expevt := rfl
@[simp] theorem State.setOtherBank_intevt (s : State) (b : BReg) (v : Word) : (s.setOtherBank b v).intevt = s.intevt := rfl
@[simp] theorem State.setOtherBank_mem (s : State) (b : BReg) (v : Word) : (s.setOtherBank b v).mem = s.mem := rfl
@[simp] theorem State.setOtherBank_stale (s : State) (b : BReg) (v : Word) : (s.setOtherBank b v).stale = s.stale := rfl
@[simp] theorem State.setOtherBank_asleep (s : State) (b : BReg) (v : Word) : (s.setOtherBank b v).asleep = s.asleep := rfl
@[simp] theorem State.setOtherBank_events (s : State) (b : BReg) (v : Word) : (s.setOtherBank b v).events = s.events := rfl
@[simp] theorem State.setOtherBank_free (s : State) (b : BReg) (v : Word) : (s.setOtherBank b v).free = s.free := rfl
@[simp] theorem State.setOtherBank_devLog (s : State) (b : BReg) (v : Word) : (s.setOtherBank b v).devLog = s.devLog := rfl
@[simp] theorem State.setOtherBank_cfg (s : State) (b : BReg) (v : Word) : (s.setOtherBank b v).cfg = s.cfg := rfl

/-! ### `setFr` -/

@[simp] theorem State.setFr_bankA (s : State) (r : FReg) (v : Word) : (s.setFr r v).bankA = s.bankA := rfl
@[simp] theorem State.setFr_bankB (s : State) (r : FReg) (v : Word) : (s.setFr r v).bankB = s.bankB := rfl
@[simp] theorem State.setFr_high (s : State) (r : FReg) (v : Word) : (s.setFr r v).high = s.high := rfl
@[simp] theorem State.setFr_pc (s : State) (r : FReg) (v : Word) : (s.setFr r v).pc = s.pc := rfl
@[simp] theorem State.setFr_pending (s : State) (r : FReg) (v : Word) : (s.setFr r v).pending = s.pending := rfl
@[simp] theorem State.setFr_sr (s : State) (r : FReg) (v : Word) : (s.setFr r v).sr = s.sr := rfl
@[simp] theorem State.setFr_gbr (s : State) (r : FReg) (v : Word) : (s.setFr r v).gbr = s.gbr := rfl
@[simp] theorem State.setFr_vbr (s : State) (r : FReg) (v : Word) : (s.setFr r v).vbr = s.vbr := rfl
@[simp] theorem State.setFr_ssr (s : State) (r : FReg) (v : Word) : (s.setFr r v).ssr = s.ssr := rfl
@[simp] theorem State.setFr_spc (s : State) (r : FReg) (v : Word) : (s.setFr r v).spc = s.spc := rfl
@[simp] theorem State.setFr_sgr (s : State) (r : FReg) (v : Word) : (s.setFr r v).sgr = s.sgr := rfl
@[simp] theorem State.setFr_dbr (s : State) (r : FReg) (v : Word) : (s.setFr r v).dbr = s.dbr := rfl
@[simp] theorem State.setFr_mach (s : State) (r : FReg) (v : Word) : (s.setFr r v).mach = s.mach := rfl
@[simp] theorem State.setFr_macl (s : State) (r : FReg) (v : Word) : (s.setFr r v).macl = s.macl := rfl
@[simp] theorem State.setFr_pr (s : State) (r : FReg) (v : Word) : (s.setFr r v).pr = s.pr := rfl
@[simp] theorem State.setFr_fpul (s : State) (r : FReg) (v : Word) : (s.setFr r v).fpul = s.fpul := rfl
@[simp] theorem State.setFr_fpscr (s : State) (r : FReg) (v : Word) : (s.setFr r v).fpscr = s.fpscr := rfl
@[simp] theorem State.setFr_pteh (s : State) (r : FReg) (v : Word) : (s.setFr r v).pteh = s.pteh := rfl
@[simp] theorem State.setFr_ptel (s : State) (r : FReg) (v : Word) : (s.setFr r v).ptel = s.ptel := rfl
@[simp] theorem State.setFr_ttb (s : State) (r : FReg) (v : Word) : (s.setFr r v).ttb = s.ttb := rfl
@[simp] theorem State.setFr_tea (s : State) (r : FReg) (v : Word) : (s.setFr r v).tea = s.tea := rfl
@[simp] theorem State.setFr_mmucr (s : State) (r : FReg) (v : Word) : (s.setFr r v).mmucr = s.mmucr := rfl
@[simp] theorem State.setFr_traevt (s : State) (r : FReg) (v : Word) : (s.setFr r v).traevt = s.traevt := rfl
@[simp] theorem State.setFr_expevt (s : State) (r : FReg) (v : Word) : (s.setFr r v).expevt = s.expevt := rfl
@[simp] theorem State.setFr_intevt (s : State) (r : FReg) (v : Word) : (s.setFr r v).intevt = s.intevt := rfl
@[simp] theorem State.setFr_mem (s : State) (r : FReg) (v : Word) : (s.setFr r v).mem = s.mem := rfl
@[simp] theorem State.setFr_stale (s : State) (r : FReg) (v : Word) : (s.setFr r v).stale = s.stale := rfl
@[simp] theorem State.setFr_asleep (s : State) (r : FReg) (v : Word) : (s.setFr r v).asleep = s.asleep := rfl
@[simp] theorem State.setFr_events (s : State) (r : FReg) (v : Word) : (s.setFr r v).events = s.events := rfl
@[simp] theorem State.setFr_free (s : State) (r : FReg) (v : Word) : (s.setFr r v).free = s.free := rfl
@[simp] theorem State.setFr_devLog (s : State) (r : FReg) (v : Word) : (s.setFr r v).devLog = s.devLog := rfl
@[simp] theorem State.setFr_cfg (s : State) (r : FReg) (v : Word) : (s.setFr r v).cfg = s.cfg := rfl

/-! ### `setDr` -/

@[simp] theorem State.setDr_bankA (s : State) (r : FReg) (v : DWord) : (s.setDr r v).bankA = s.bankA := rfl
@[simp] theorem State.setDr_bankB (s : State) (r : FReg) (v : DWord) : (s.setDr r v).bankB = s.bankB := rfl
@[simp] theorem State.setDr_high (s : State) (r : FReg) (v : DWord) : (s.setDr r v).high = s.high := rfl
@[simp] theorem State.setDr_pc (s : State) (r : FReg) (v : DWord) : (s.setDr r v).pc = s.pc := rfl
@[simp] theorem State.setDr_pending (s : State) (r : FReg) (v : DWord) : (s.setDr r v).pending = s.pending := rfl
@[simp] theorem State.setDr_sr (s : State) (r : FReg) (v : DWord) : (s.setDr r v).sr = s.sr := rfl
@[simp] theorem State.setDr_gbr (s : State) (r : FReg) (v : DWord) : (s.setDr r v).gbr = s.gbr := rfl
@[simp] theorem State.setDr_vbr (s : State) (r : FReg) (v : DWord) : (s.setDr r v).vbr = s.vbr := rfl
@[simp] theorem State.setDr_ssr (s : State) (r : FReg) (v : DWord) : (s.setDr r v).ssr = s.ssr := rfl
@[simp] theorem State.setDr_spc (s : State) (r : FReg) (v : DWord) : (s.setDr r v).spc = s.spc := rfl
@[simp] theorem State.setDr_sgr (s : State) (r : FReg) (v : DWord) : (s.setDr r v).sgr = s.sgr := rfl
@[simp] theorem State.setDr_dbr (s : State) (r : FReg) (v : DWord) : (s.setDr r v).dbr = s.dbr := rfl
@[simp] theorem State.setDr_mach (s : State) (r : FReg) (v : DWord) : (s.setDr r v).mach = s.mach := rfl
@[simp] theorem State.setDr_macl (s : State) (r : FReg) (v : DWord) : (s.setDr r v).macl = s.macl := rfl
@[simp] theorem State.setDr_pr (s : State) (r : FReg) (v : DWord) : (s.setDr r v).pr = s.pr := rfl
@[simp] theorem State.setDr_fpul (s : State) (r : FReg) (v : DWord) : (s.setDr r v).fpul = s.fpul := rfl
@[simp] theorem State.setDr_fpscr (s : State) (r : FReg) (v : DWord) : (s.setDr r v).fpscr = s.fpscr := rfl
@[simp] theorem State.setDr_pteh (s : State) (r : FReg) (v : DWord) : (s.setDr r v).pteh = s.pteh := rfl
@[simp] theorem State.setDr_ptel (s : State) (r : FReg) (v : DWord) : (s.setDr r v).ptel = s.ptel := rfl
@[simp] theorem State.setDr_ttb (s : State) (r : FReg) (v : DWord) : (s.setDr r v).ttb = s.ttb := rfl
@[simp] theorem State.setDr_tea (s : State) (r : FReg) (v : DWord) : (s.setDr r v).tea = s.tea := rfl
@[simp] theorem State.setDr_mmucr (s : State) (r : FReg) (v : DWord) : (s.setDr r v).mmucr = s.mmucr := rfl
@[simp] theorem State.setDr_traevt (s : State) (r : FReg) (v : DWord) : (s.setDr r v).traevt = s.traevt := rfl
@[simp] theorem State.setDr_expevt (s : State) (r : FReg) (v : DWord) : (s.setDr r v).expevt = s.expevt := rfl
@[simp] theorem State.setDr_intevt (s : State) (r : FReg) (v : DWord) : (s.setDr r v).intevt = s.intevt := rfl
@[simp] theorem State.setDr_mem (s : State) (r : FReg) (v : DWord) : (s.setDr r v).mem = s.mem := rfl
@[simp] theorem State.setDr_stale (s : State) (r : FReg) (v : DWord) : (s.setDr r v).stale = s.stale := rfl
@[simp] theorem State.setDr_asleep (s : State) (r : FReg) (v : DWord) : (s.setDr r v).asleep = s.asleep := rfl
@[simp] theorem State.setDr_events (s : State) (r : FReg) (v : DWord) : (s.setDr r v).events = s.events := rfl
@[simp] theorem State.setDr_free (s : State) (r : FReg) (v : DWord) : (s.setDr r v).free = s.free := rfl
@[simp] theorem State.setDr_devLog (s : State) (r : FReg) (v : DWord) : (s.setDr r v).devLog = s.devLog := rfl
@[simp] theorem State.setDr_cfg (s : State) (r : FReg) (v : DWord) : (s.setDr r v).cfg = s.cfg := rfl

/-! ### `advance` -/

@[simp] theorem State.advance_bankA (s : State) (n : Word) : (s.advance n).bankA = s.bankA := rfl
@[simp] theorem State.advance_bankB (s : State) (n : Word) : (s.advance n).bankB = s.bankB := rfl
@[simp] theorem State.advance_high (s : State) (n : Word) : (s.advance n).high = s.high := rfl
@[simp] theorem State.advance_pending (s : State) (n : Word) : (s.advance n).pending = none := rfl
@[simp] theorem State.advance_sr (s : State) (n : Word) : (s.advance n).sr = s.sr := rfl
@[simp] theorem State.advance_gbr (s : State) (n : Word) : (s.advance n).gbr = s.gbr := rfl
@[simp] theorem State.advance_vbr (s : State) (n : Word) : (s.advance n).vbr = s.vbr := rfl
@[simp] theorem State.advance_ssr (s : State) (n : Word) : (s.advance n).ssr = s.ssr := rfl
@[simp] theorem State.advance_spc (s : State) (n : Word) : (s.advance n).spc = s.spc := rfl
@[simp] theorem State.advance_sgr (s : State) (n : Word) : (s.advance n).sgr = s.sgr := rfl
@[simp] theorem State.advance_dbr (s : State) (n : Word) : (s.advance n).dbr = s.dbr := rfl
@[simp] theorem State.advance_mach (s : State) (n : Word) : (s.advance n).mach = s.mach := rfl
@[simp] theorem State.advance_macl (s : State) (n : Word) : (s.advance n).macl = s.macl := rfl
@[simp] theorem State.advance_pr (s : State) (n : Word) : (s.advance n).pr = s.pr := rfl
@[simp] theorem State.advance_fpul (s : State) (n : Word) : (s.advance n).fpul = s.fpul := rfl
@[simp] theorem State.advance_fpscr (s : State) (n : Word) : (s.advance n).fpscr = s.fpscr := rfl
@[simp] theorem State.advance_fa (s : State) (n : Word) : (s.advance n).fa = s.fa := rfl
@[simp] theorem State.advance_fb (s : State) (n : Word) : (s.advance n).fb = s.fb := rfl
@[simp] theorem State.advance_pteh (s : State) (n : Word) : (s.advance n).pteh = s.pteh := rfl
@[simp] theorem State.advance_ptel (s : State) (n : Word) : (s.advance n).ptel = s.ptel := rfl
@[simp] theorem State.advance_ttb (s : State) (n : Word) : (s.advance n).ttb = s.ttb := rfl
@[simp] theorem State.advance_tea (s : State) (n : Word) : (s.advance n).tea = s.tea := rfl
@[simp] theorem State.advance_mmucr (s : State) (n : Word) : (s.advance n).mmucr = s.mmucr := rfl
@[simp] theorem State.advance_traevt (s : State) (n : Word) : (s.advance n).traevt = s.traevt := rfl
@[simp] theorem State.advance_expevt (s : State) (n : Word) : (s.advance n).expevt = s.expevt := rfl
@[simp] theorem State.advance_intevt (s : State) (n : Word) : (s.advance n).intevt = s.intevt := rfl
@[simp] theorem State.advance_mem (s : State) (n : Word) : (s.advance n).mem = s.mem := rfl
@[simp] theorem State.advance_stale (s : State) (n : Word) : (s.advance n).stale = s.stale := rfl
@[simp] theorem State.advance_asleep (s : State) (n : Word) : (s.advance n).asleep = s.asleep := rfl
@[simp] theorem State.advance_events (s : State) (n : Word) : (s.advance n).events = s.events := rfl
@[simp] theorem State.advance_free (s : State) (n : Word) : (s.advance n).free = s.free := rfl
@[simp] theorem State.advance_devLog (s : State) (n : Word) : (s.advance n).devLog = s.devLog := rfl
@[simp] theorem State.advance_cfg (s : State) (n : Word) : (s.advance n).cfg = s.cfg := rfl

/-! ### `jump` -/

@[simp] theorem State.jump_bankA (s : State) (target : Word) : (s.jump target).bankA = s.bankA := rfl
@[simp] theorem State.jump_bankB (s : State) (target : Word) : (s.jump target).bankB = s.bankB := rfl
@[simp] theorem State.jump_high (s : State) (target : Word) : (s.jump target).high = s.high := rfl
@[simp] theorem State.jump_pc (s : State) (target : Word) : (s.jump target).pc = target := rfl
@[simp] theorem State.jump_pending (s : State) (target : Word) : (s.jump target).pending = none := rfl
@[simp] theorem State.jump_sr (s : State) (target : Word) : (s.jump target).sr = s.sr := rfl
@[simp] theorem State.jump_gbr (s : State) (target : Word) : (s.jump target).gbr = s.gbr := rfl
@[simp] theorem State.jump_vbr (s : State) (target : Word) : (s.jump target).vbr = s.vbr := rfl
@[simp] theorem State.jump_ssr (s : State) (target : Word) : (s.jump target).ssr = s.ssr := rfl
@[simp] theorem State.jump_spc (s : State) (target : Word) : (s.jump target).spc = s.spc := rfl
@[simp] theorem State.jump_sgr (s : State) (target : Word) : (s.jump target).sgr = s.sgr := rfl
@[simp] theorem State.jump_dbr (s : State) (target : Word) : (s.jump target).dbr = s.dbr := rfl
@[simp] theorem State.jump_mach (s : State) (target : Word) : (s.jump target).mach = s.mach := rfl
@[simp] theorem State.jump_macl (s : State) (target : Word) : (s.jump target).macl = s.macl := rfl
@[simp] theorem State.jump_pr (s : State) (target : Word) : (s.jump target).pr = s.pr := rfl
@[simp] theorem State.jump_fpul (s : State) (target : Word) : (s.jump target).fpul = s.fpul := rfl
@[simp] theorem State.jump_fpscr (s : State) (target : Word) : (s.jump target).fpscr = s.fpscr := rfl
@[simp] theorem State.jump_fa (s : State) (target : Word) : (s.jump target).fa = s.fa := rfl
@[simp] theorem State.jump_fb (s : State) (target : Word) : (s.jump target).fb = s.fb := rfl
@[simp] theorem State.jump_pteh (s : State) (target : Word) : (s.jump target).pteh = s.pteh := rfl
@[simp] theorem State.jump_ptel (s : State) (target : Word) : (s.jump target).ptel = s.ptel := rfl
@[simp] theorem State.jump_ttb (s : State) (target : Word) : (s.jump target).ttb = s.ttb := rfl
@[simp] theorem State.jump_tea (s : State) (target : Word) : (s.jump target).tea = s.tea := rfl
@[simp] theorem State.jump_mmucr (s : State) (target : Word) : (s.jump target).mmucr = s.mmucr := rfl
@[simp] theorem State.jump_traevt (s : State) (target : Word) : (s.jump target).traevt = s.traevt := rfl
@[simp] theorem State.jump_expevt (s : State) (target : Word) : (s.jump target).expevt = s.expevt := rfl
@[simp] theorem State.jump_intevt (s : State) (target : Word) : (s.jump target).intevt = s.intevt := rfl
@[simp] theorem State.jump_mem (s : State) (target : Word) : (s.jump target).mem = s.mem := rfl
@[simp] theorem State.jump_stale (s : State) (target : Word) : (s.jump target).stale = s.stale := rfl
@[simp] theorem State.jump_asleep (s : State) (target : Word) : (s.jump target).asleep = s.asleep := rfl
@[simp] theorem State.jump_events (s : State) (target : Word) : (s.jump target).events = s.events := rfl
@[simp] theorem State.jump_free (s : State) (target : Word) : (s.jump target).free = s.free := rfl
@[simp] theorem State.jump_devLog (s : State) (target : Word) : (s.jump target).devLog = s.devLog := rfl
@[simp] theorem State.jump_cfg (s : State) (target : Word) : (s.jump target).cfg = s.cfg := rfl

/-! ### `delay` -/

@[simp] theorem State.delay_bankA (s : State) (n target : Word) : (s.delay n target).bankA = s.bankA := rfl
@[simp] theorem State.delay_bankB (s : State) (n target : Word) : (s.delay n target).bankB = s.bankB := rfl
@[simp] theorem State.delay_high (s : State) (n target : Word) : (s.delay n target).high = s.high := rfl
@[simp] theorem State.delay_pc (s : State) (n target : Word) : (s.delay n target).pc = s.pc + n := rfl
@[simp] theorem State.delay_pending (s : State) (n target : Word) : (s.delay n target).pending = some ⟨target, s.pc, s.md⟩ := rfl
@[simp] theorem State.delay_sr (s : State) (n target : Word) : (s.delay n target).sr = s.sr := rfl
@[simp] theorem State.delay_gbr (s : State) (n target : Word) : (s.delay n target).gbr = s.gbr := rfl
@[simp] theorem State.delay_vbr (s : State) (n target : Word) : (s.delay n target).vbr = s.vbr := rfl
@[simp] theorem State.delay_ssr (s : State) (n target : Word) : (s.delay n target).ssr = s.ssr := rfl
@[simp] theorem State.delay_spc (s : State) (n target : Word) : (s.delay n target).spc = s.spc := rfl
@[simp] theorem State.delay_sgr (s : State) (n target : Word) : (s.delay n target).sgr = s.sgr := rfl
@[simp] theorem State.delay_dbr (s : State) (n target : Word) : (s.delay n target).dbr = s.dbr := rfl
@[simp] theorem State.delay_mach (s : State) (n target : Word) : (s.delay n target).mach = s.mach := rfl
@[simp] theorem State.delay_macl (s : State) (n target : Word) : (s.delay n target).macl = s.macl := rfl
@[simp] theorem State.delay_pr (s : State) (n target : Word) : (s.delay n target).pr = s.pr := rfl
@[simp] theorem State.delay_fpul (s : State) (n target : Word) : (s.delay n target).fpul = s.fpul := rfl
@[simp] theorem State.delay_fpscr (s : State) (n target : Word) : (s.delay n target).fpscr = s.fpscr := rfl
@[simp] theorem State.delay_fa (s : State) (n target : Word) : (s.delay n target).fa = s.fa := rfl
@[simp] theorem State.delay_fb (s : State) (n target : Word) : (s.delay n target).fb = s.fb := rfl
@[simp] theorem State.delay_pteh (s : State) (n target : Word) : (s.delay n target).pteh = s.pteh := rfl
@[simp] theorem State.delay_ptel (s : State) (n target : Word) : (s.delay n target).ptel = s.ptel := rfl
@[simp] theorem State.delay_ttb (s : State) (n target : Word) : (s.delay n target).ttb = s.ttb := rfl
@[simp] theorem State.delay_tea (s : State) (n target : Word) : (s.delay n target).tea = s.tea := rfl
@[simp] theorem State.delay_mmucr (s : State) (n target : Word) : (s.delay n target).mmucr = s.mmucr := rfl
@[simp] theorem State.delay_traevt (s : State) (n target : Word) : (s.delay n target).traevt = s.traevt := rfl
@[simp] theorem State.delay_expevt (s : State) (n target : Word) : (s.delay n target).expevt = s.expevt := rfl
@[simp] theorem State.delay_intevt (s : State) (n target : Word) : (s.delay n target).intevt = s.intevt := rfl
@[simp] theorem State.delay_mem (s : State) (n target : Word) : (s.delay n target).mem = s.mem := rfl
@[simp] theorem State.delay_stale (s : State) (n target : Word) : (s.delay n target).stale = s.stale := rfl
@[simp] theorem State.delay_asleep (s : State) (n target : Word) : (s.delay n target).asleep = s.asleep := rfl
@[simp] theorem State.delay_events (s : State) (n target : Word) : (s.delay n target).events = s.events := rfl
@[simp] theorem State.delay_free (s : State) (n target : Word) : (s.delay n target).free = s.free := rfl
@[simp] theorem State.delay_devLog (s : State) (n target : Word) : (s.delay n target).devLog = s.devLog := rfl
@[simp] theorem State.delay_cfg (s : State) (n target : Word) : (s.delay n target).cfg = s.cfg := rfl

/-! ### `drawn` -/

@[simp] theorem State.drawn_bankA (s : State) : s.drawn.bankA = s.bankA := rfl
@[simp] theorem State.drawn_bankB (s : State) : s.drawn.bankB = s.bankB := rfl
@[simp] theorem State.drawn_high (s : State) : s.drawn.high = s.high := rfl
@[simp] theorem State.drawn_pc (s : State) : s.drawn.pc = s.pc := rfl
@[simp] theorem State.drawn_pending (s : State) : s.drawn.pending = s.pending := rfl
@[simp] theorem State.drawn_sr (s : State) : s.drawn.sr = s.sr := rfl
@[simp] theorem State.drawn_gbr (s : State) : s.drawn.gbr = s.gbr := rfl
@[simp] theorem State.drawn_vbr (s : State) : s.drawn.vbr = s.vbr := rfl
@[simp] theorem State.drawn_ssr (s : State) : s.drawn.ssr = s.ssr := rfl
@[simp] theorem State.drawn_spc (s : State) : s.drawn.spc = s.spc := rfl
@[simp] theorem State.drawn_sgr (s : State) : s.drawn.sgr = s.sgr := rfl
@[simp] theorem State.drawn_dbr (s : State) : s.drawn.dbr = s.dbr := rfl
@[simp] theorem State.drawn_mach (s : State) : s.drawn.mach = s.mach := rfl
@[simp] theorem State.drawn_macl (s : State) : s.drawn.macl = s.macl := rfl
@[simp] theorem State.drawn_pr (s : State) : s.drawn.pr = s.pr := rfl
@[simp] theorem State.drawn_fpul (s : State) : s.drawn.fpul = s.fpul := rfl
@[simp] theorem State.drawn_fpscr (s : State) : s.drawn.fpscr = s.fpscr := rfl
@[simp] theorem State.drawn_fa (s : State) : s.drawn.fa = s.fa := rfl
@[simp] theorem State.drawn_fb (s : State) : s.drawn.fb = s.fb := rfl
@[simp] theorem State.drawn_pteh (s : State) : s.drawn.pteh = s.pteh := rfl
@[simp] theorem State.drawn_ptel (s : State) : s.drawn.ptel = s.ptel := rfl
@[simp] theorem State.drawn_ttb (s : State) : s.drawn.ttb = s.ttb := rfl
@[simp] theorem State.drawn_tea (s : State) : s.drawn.tea = s.tea := rfl
@[simp] theorem State.drawn_mmucr (s : State) : s.drawn.mmucr = s.mmucr := rfl
@[simp] theorem State.drawn_traevt (s : State) : s.drawn.traevt = s.traevt := rfl
@[simp] theorem State.drawn_expevt (s : State) : s.drawn.expevt = s.expevt := rfl
@[simp] theorem State.drawn_intevt (s : State) : s.drawn.intevt = s.intevt := rfl
@[simp] theorem State.drawn_mem (s : State) : s.drawn.mem = s.mem := rfl
@[simp] theorem State.drawn_stale (s : State) : s.drawn.stale = s.stale := rfl
@[simp] theorem State.drawn_asleep (s : State) : s.drawn.asleep = s.asleep := rfl
@[simp] theorem State.drawn_events (s : State) : s.drawn.events = s.events := rfl
@[simp] theorem State.drawn_free (s : State) : s.drawn.free = s.free + 1 := rfl
@[simp] theorem State.drawn_devLog (s : State) : s.drawn.devLog = s.devLog := rfl
@[simp] theorem State.drawn_cfg (s : State) : s.drawn.cfg = s.cfg := rfl

/-! ### `setGbr` -/

@[simp] theorem State.setGbr_bankA (s : State) (v : Word) : (s.setGbr v).bankA = s.bankA := rfl
@[simp] theorem State.setGbr_bankB (s : State) (v : Word) : (s.setGbr v).bankB = s.bankB := rfl
@[simp] theorem State.setGbr_high (s : State) (v : Word) : (s.setGbr v).high = s.high := rfl
@[simp] theorem State.setGbr_pc (s : State) (v : Word) : (s.setGbr v).pc = s.pc := rfl
@[simp] theorem State.setGbr_pending (s : State) (v : Word) : (s.setGbr v).pending = s.pending := rfl
@[simp] theorem State.setGbr_sr (s : State) (v : Word) : (s.setGbr v).sr = s.sr := rfl
@[simp] theorem State.setGbr_gbr (s : State) (v : Word) : (s.setGbr v).gbr = v := rfl
@[simp] theorem State.setGbr_vbr (s : State) (v : Word) : (s.setGbr v).vbr = s.vbr := rfl
@[simp] theorem State.setGbr_ssr (s : State) (v : Word) : (s.setGbr v).ssr = s.ssr := rfl
@[simp] theorem State.setGbr_spc (s : State) (v : Word) : (s.setGbr v).spc = s.spc := rfl
@[simp] theorem State.setGbr_sgr (s : State) (v : Word) : (s.setGbr v).sgr = s.sgr := rfl
@[simp] theorem State.setGbr_dbr (s : State) (v : Word) : (s.setGbr v).dbr = s.dbr := rfl
@[simp] theorem State.setGbr_mach (s : State) (v : Word) : (s.setGbr v).mach = s.mach := rfl
@[simp] theorem State.setGbr_macl (s : State) (v : Word) : (s.setGbr v).macl = s.macl := rfl
@[simp] theorem State.setGbr_pr (s : State) (v : Word) : (s.setGbr v).pr = s.pr := rfl
@[simp] theorem State.setGbr_fpul (s : State) (v : Word) : (s.setGbr v).fpul = s.fpul := rfl
@[simp] theorem State.setGbr_fpscr (s : State) (v : Word) : (s.setGbr v).fpscr = s.fpscr := rfl
@[simp] theorem State.setGbr_fa (s : State) (v : Word) : (s.setGbr v).fa = s.fa := rfl
@[simp] theorem State.setGbr_fb (s : State) (v : Word) : (s.setGbr v).fb = s.fb := rfl
@[simp] theorem State.setGbr_pteh (s : State) (v : Word) : (s.setGbr v).pteh = s.pteh := rfl
@[simp] theorem State.setGbr_ptel (s : State) (v : Word) : (s.setGbr v).ptel = s.ptel := rfl
@[simp] theorem State.setGbr_ttb (s : State) (v : Word) : (s.setGbr v).ttb = s.ttb := rfl
@[simp] theorem State.setGbr_tea (s : State) (v : Word) : (s.setGbr v).tea = s.tea := rfl
@[simp] theorem State.setGbr_mmucr (s : State) (v : Word) : (s.setGbr v).mmucr = s.mmucr := rfl
@[simp] theorem State.setGbr_traevt (s : State) (v : Word) : (s.setGbr v).traevt = s.traevt := rfl
@[simp] theorem State.setGbr_expevt (s : State) (v : Word) : (s.setGbr v).expevt = s.expevt := rfl
@[simp] theorem State.setGbr_intevt (s : State) (v : Word) : (s.setGbr v).intevt = s.intevt := rfl
@[simp] theorem State.setGbr_mem (s : State) (v : Word) : (s.setGbr v).mem = s.mem := rfl
@[simp] theorem State.setGbr_stale (s : State) (v : Word) : (s.setGbr v).stale = s.stale := rfl
@[simp] theorem State.setGbr_asleep (s : State) (v : Word) : (s.setGbr v).asleep = s.asleep := rfl
@[simp] theorem State.setGbr_events (s : State) (v : Word) : (s.setGbr v).events = s.events := rfl
@[simp] theorem State.setGbr_free (s : State) (v : Word) : (s.setGbr v).free = s.free := rfl
@[simp] theorem State.setGbr_devLog (s : State) (v : Word) : (s.setGbr v).devLog = s.devLog := rfl
@[simp] theorem State.setGbr_cfg (s : State) (v : Word) : (s.setGbr v).cfg = s.cfg := rfl

/-! ### `setVbr` -/

@[simp] theorem State.setVbr_bankA (s : State) (v : Word) : (s.setVbr v).bankA = s.bankA := rfl
@[simp] theorem State.setVbr_bankB (s : State) (v : Word) : (s.setVbr v).bankB = s.bankB := rfl
@[simp] theorem State.setVbr_high (s : State) (v : Word) : (s.setVbr v).high = s.high := rfl
@[simp] theorem State.setVbr_pc (s : State) (v : Word) : (s.setVbr v).pc = s.pc := rfl
@[simp] theorem State.setVbr_pending (s : State) (v : Word) : (s.setVbr v).pending = s.pending := rfl
@[simp] theorem State.setVbr_sr (s : State) (v : Word) : (s.setVbr v).sr = s.sr := rfl
@[simp] theorem State.setVbr_gbr (s : State) (v : Word) : (s.setVbr v).gbr = s.gbr := rfl
@[simp] theorem State.setVbr_vbr (s : State) (v : Word) : (s.setVbr v).vbr = v := rfl
@[simp] theorem State.setVbr_ssr (s : State) (v : Word) : (s.setVbr v).ssr = s.ssr := rfl
@[simp] theorem State.setVbr_spc (s : State) (v : Word) : (s.setVbr v).spc = s.spc := rfl
@[simp] theorem State.setVbr_sgr (s : State) (v : Word) : (s.setVbr v).sgr = s.sgr := rfl
@[simp] theorem State.setVbr_dbr (s : State) (v : Word) : (s.setVbr v).dbr = s.dbr := rfl
@[simp] theorem State.setVbr_mach (s : State) (v : Word) : (s.setVbr v).mach = s.mach := rfl
@[simp] theorem State.setVbr_macl (s : State) (v : Word) : (s.setVbr v).macl = s.macl := rfl
@[simp] theorem State.setVbr_pr (s : State) (v : Word) : (s.setVbr v).pr = s.pr := rfl
@[simp] theorem State.setVbr_fpul (s : State) (v : Word) : (s.setVbr v).fpul = s.fpul := rfl
@[simp] theorem State.setVbr_fpscr (s : State) (v : Word) : (s.setVbr v).fpscr = s.fpscr := rfl
@[simp] theorem State.setVbr_fa (s : State) (v : Word) : (s.setVbr v).fa = s.fa := rfl
@[simp] theorem State.setVbr_fb (s : State) (v : Word) : (s.setVbr v).fb = s.fb := rfl
@[simp] theorem State.setVbr_pteh (s : State) (v : Word) : (s.setVbr v).pteh = s.pteh := rfl
@[simp] theorem State.setVbr_ptel (s : State) (v : Word) : (s.setVbr v).ptel = s.ptel := rfl
@[simp] theorem State.setVbr_ttb (s : State) (v : Word) : (s.setVbr v).ttb = s.ttb := rfl
@[simp] theorem State.setVbr_tea (s : State) (v : Word) : (s.setVbr v).tea = s.tea := rfl
@[simp] theorem State.setVbr_mmucr (s : State) (v : Word) : (s.setVbr v).mmucr = s.mmucr := rfl
@[simp] theorem State.setVbr_traevt (s : State) (v : Word) : (s.setVbr v).traevt = s.traevt := rfl
@[simp] theorem State.setVbr_expevt (s : State) (v : Word) : (s.setVbr v).expevt = s.expevt := rfl
@[simp] theorem State.setVbr_intevt (s : State) (v : Word) : (s.setVbr v).intevt = s.intevt := rfl
@[simp] theorem State.setVbr_mem (s : State) (v : Word) : (s.setVbr v).mem = s.mem := rfl
@[simp] theorem State.setVbr_stale (s : State) (v : Word) : (s.setVbr v).stale = s.stale := rfl
@[simp] theorem State.setVbr_asleep (s : State) (v : Word) : (s.setVbr v).asleep = s.asleep := rfl
@[simp] theorem State.setVbr_events (s : State) (v : Word) : (s.setVbr v).events = s.events := rfl
@[simp] theorem State.setVbr_free (s : State) (v : Word) : (s.setVbr v).free = s.free := rfl
@[simp] theorem State.setVbr_devLog (s : State) (v : Word) : (s.setVbr v).devLog = s.devLog := rfl
@[simp] theorem State.setVbr_cfg (s : State) (v : Word) : (s.setVbr v).cfg = s.cfg := rfl

/-! ### `setSsr` -/

@[simp] theorem State.setSsr_bankA (s : State) (v : Word) : (s.setSsr v).bankA = s.bankA := rfl
@[simp] theorem State.setSsr_bankB (s : State) (v : Word) : (s.setSsr v).bankB = s.bankB := rfl
@[simp] theorem State.setSsr_high (s : State) (v : Word) : (s.setSsr v).high = s.high := rfl
@[simp] theorem State.setSsr_pc (s : State) (v : Word) : (s.setSsr v).pc = s.pc := rfl
@[simp] theorem State.setSsr_pending (s : State) (v : Word) : (s.setSsr v).pending = s.pending := rfl
@[simp] theorem State.setSsr_sr (s : State) (v : Word) : (s.setSsr v).sr = s.sr := rfl
@[simp] theorem State.setSsr_gbr (s : State) (v : Word) : (s.setSsr v).gbr = s.gbr := rfl
@[simp] theorem State.setSsr_vbr (s : State) (v : Word) : (s.setSsr v).vbr = s.vbr := rfl
@[simp] theorem State.setSsr_ssr (s : State) (v : Word) : (s.setSsr v).ssr = v := rfl
@[simp] theorem State.setSsr_spc (s : State) (v : Word) : (s.setSsr v).spc = s.spc := rfl
@[simp] theorem State.setSsr_sgr (s : State) (v : Word) : (s.setSsr v).sgr = s.sgr := rfl
@[simp] theorem State.setSsr_dbr (s : State) (v : Word) : (s.setSsr v).dbr = s.dbr := rfl
@[simp] theorem State.setSsr_mach (s : State) (v : Word) : (s.setSsr v).mach = s.mach := rfl
@[simp] theorem State.setSsr_macl (s : State) (v : Word) : (s.setSsr v).macl = s.macl := rfl
@[simp] theorem State.setSsr_pr (s : State) (v : Word) : (s.setSsr v).pr = s.pr := rfl
@[simp] theorem State.setSsr_fpul (s : State) (v : Word) : (s.setSsr v).fpul = s.fpul := rfl
@[simp] theorem State.setSsr_fpscr (s : State) (v : Word) : (s.setSsr v).fpscr = s.fpscr := rfl
@[simp] theorem State.setSsr_fa (s : State) (v : Word) : (s.setSsr v).fa = s.fa := rfl
@[simp] theorem State.setSsr_fb (s : State) (v : Word) : (s.setSsr v).fb = s.fb := rfl
@[simp] theorem State.setSsr_pteh (s : State) (v : Word) : (s.setSsr v).pteh = s.pteh := rfl
@[simp] theorem State.setSsr_ptel (s : State) (v : Word) : (s.setSsr v).ptel = s.ptel := rfl
@[simp] theorem State.setSsr_ttb (s : State) (v : Word) : (s.setSsr v).ttb = s.ttb := rfl
@[simp] theorem State.setSsr_tea (s : State) (v : Word) : (s.setSsr v).tea = s.tea := rfl
@[simp] theorem State.setSsr_mmucr (s : State) (v : Word) : (s.setSsr v).mmucr = s.mmucr := rfl
@[simp] theorem State.setSsr_traevt (s : State) (v : Word) : (s.setSsr v).traevt = s.traevt := rfl
@[simp] theorem State.setSsr_expevt (s : State) (v : Word) : (s.setSsr v).expevt = s.expevt := rfl
@[simp] theorem State.setSsr_intevt (s : State) (v : Word) : (s.setSsr v).intevt = s.intevt := rfl
@[simp] theorem State.setSsr_mem (s : State) (v : Word) : (s.setSsr v).mem = s.mem := rfl
@[simp] theorem State.setSsr_stale (s : State) (v : Word) : (s.setSsr v).stale = s.stale := rfl
@[simp] theorem State.setSsr_asleep (s : State) (v : Word) : (s.setSsr v).asleep = s.asleep := rfl
@[simp] theorem State.setSsr_events (s : State) (v : Word) : (s.setSsr v).events = s.events := rfl
@[simp] theorem State.setSsr_free (s : State) (v : Word) : (s.setSsr v).free = s.free := rfl
@[simp] theorem State.setSsr_devLog (s : State) (v : Word) : (s.setSsr v).devLog = s.devLog := rfl
@[simp] theorem State.setSsr_cfg (s : State) (v : Word) : (s.setSsr v).cfg = s.cfg := rfl

/-! ### `setSpc` -/

@[simp] theorem State.setSpc_bankA (s : State) (v : Word) : (s.setSpc v).bankA = s.bankA := rfl
@[simp] theorem State.setSpc_bankB (s : State) (v : Word) : (s.setSpc v).bankB = s.bankB := rfl
@[simp] theorem State.setSpc_high (s : State) (v : Word) : (s.setSpc v).high = s.high := rfl
@[simp] theorem State.setSpc_pc (s : State) (v : Word) : (s.setSpc v).pc = s.pc := rfl
@[simp] theorem State.setSpc_pending (s : State) (v : Word) : (s.setSpc v).pending = s.pending := rfl
@[simp] theorem State.setSpc_sr (s : State) (v : Word) : (s.setSpc v).sr = s.sr := rfl
@[simp] theorem State.setSpc_gbr (s : State) (v : Word) : (s.setSpc v).gbr = s.gbr := rfl
@[simp] theorem State.setSpc_vbr (s : State) (v : Word) : (s.setSpc v).vbr = s.vbr := rfl
@[simp] theorem State.setSpc_ssr (s : State) (v : Word) : (s.setSpc v).ssr = s.ssr := rfl
@[simp] theorem State.setSpc_spc (s : State) (v : Word) : (s.setSpc v).spc = v := rfl
@[simp] theorem State.setSpc_sgr (s : State) (v : Word) : (s.setSpc v).sgr = s.sgr := rfl
@[simp] theorem State.setSpc_dbr (s : State) (v : Word) : (s.setSpc v).dbr = s.dbr := rfl
@[simp] theorem State.setSpc_mach (s : State) (v : Word) : (s.setSpc v).mach = s.mach := rfl
@[simp] theorem State.setSpc_macl (s : State) (v : Word) : (s.setSpc v).macl = s.macl := rfl
@[simp] theorem State.setSpc_pr (s : State) (v : Word) : (s.setSpc v).pr = s.pr := rfl
@[simp] theorem State.setSpc_fpul (s : State) (v : Word) : (s.setSpc v).fpul = s.fpul := rfl
@[simp] theorem State.setSpc_fpscr (s : State) (v : Word) : (s.setSpc v).fpscr = s.fpscr := rfl
@[simp] theorem State.setSpc_fa (s : State) (v : Word) : (s.setSpc v).fa = s.fa := rfl
@[simp] theorem State.setSpc_fb (s : State) (v : Word) : (s.setSpc v).fb = s.fb := rfl
@[simp] theorem State.setSpc_pteh (s : State) (v : Word) : (s.setSpc v).pteh = s.pteh := rfl
@[simp] theorem State.setSpc_ptel (s : State) (v : Word) : (s.setSpc v).ptel = s.ptel := rfl
@[simp] theorem State.setSpc_ttb (s : State) (v : Word) : (s.setSpc v).ttb = s.ttb := rfl
@[simp] theorem State.setSpc_tea (s : State) (v : Word) : (s.setSpc v).tea = s.tea := rfl
@[simp] theorem State.setSpc_mmucr (s : State) (v : Word) : (s.setSpc v).mmucr = s.mmucr := rfl
@[simp] theorem State.setSpc_traevt (s : State) (v : Word) : (s.setSpc v).traevt = s.traevt := rfl
@[simp] theorem State.setSpc_expevt (s : State) (v : Word) : (s.setSpc v).expevt = s.expevt := rfl
@[simp] theorem State.setSpc_intevt (s : State) (v : Word) : (s.setSpc v).intevt = s.intevt := rfl
@[simp] theorem State.setSpc_mem (s : State) (v : Word) : (s.setSpc v).mem = s.mem := rfl
@[simp] theorem State.setSpc_stale (s : State) (v : Word) : (s.setSpc v).stale = s.stale := rfl
@[simp] theorem State.setSpc_asleep (s : State) (v : Word) : (s.setSpc v).asleep = s.asleep := rfl
@[simp] theorem State.setSpc_events (s : State) (v : Word) : (s.setSpc v).events = s.events := rfl
@[simp] theorem State.setSpc_free (s : State) (v : Word) : (s.setSpc v).free = s.free := rfl
@[simp] theorem State.setSpc_devLog (s : State) (v : Word) : (s.setSpc v).devLog = s.devLog := rfl
@[simp] theorem State.setSpc_cfg (s : State) (v : Word) : (s.setSpc v).cfg = s.cfg := rfl

/-! ### `setSgr` -/

@[simp] theorem State.setSgr_bankA (s : State) (v : Word) : (s.setSgr v).bankA = s.bankA := rfl
@[simp] theorem State.setSgr_bankB (s : State) (v : Word) : (s.setSgr v).bankB = s.bankB := rfl
@[simp] theorem State.setSgr_high (s : State) (v : Word) : (s.setSgr v).high = s.high := rfl
@[simp] theorem State.setSgr_pc (s : State) (v : Word) : (s.setSgr v).pc = s.pc := rfl
@[simp] theorem State.setSgr_pending (s : State) (v : Word) : (s.setSgr v).pending = s.pending := rfl
@[simp] theorem State.setSgr_sr (s : State) (v : Word) : (s.setSgr v).sr = s.sr := rfl
@[simp] theorem State.setSgr_gbr (s : State) (v : Word) : (s.setSgr v).gbr = s.gbr := rfl
@[simp] theorem State.setSgr_vbr (s : State) (v : Word) : (s.setSgr v).vbr = s.vbr := rfl
@[simp] theorem State.setSgr_ssr (s : State) (v : Word) : (s.setSgr v).ssr = s.ssr := rfl
@[simp] theorem State.setSgr_spc (s : State) (v : Word) : (s.setSgr v).spc = s.spc := rfl
@[simp] theorem State.setSgr_sgr (s : State) (v : Word) : (s.setSgr v).sgr = v := rfl
@[simp] theorem State.setSgr_dbr (s : State) (v : Word) : (s.setSgr v).dbr = s.dbr := rfl
@[simp] theorem State.setSgr_mach (s : State) (v : Word) : (s.setSgr v).mach = s.mach := rfl
@[simp] theorem State.setSgr_macl (s : State) (v : Word) : (s.setSgr v).macl = s.macl := rfl
@[simp] theorem State.setSgr_pr (s : State) (v : Word) : (s.setSgr v).pr = s.pr := rfl
@[simp] theorem State.setSgr_fpul (s : State) (v : Word) : (s.setSgr v).fpul = s.fpul := rfl
@[simp] theorem State.setSgr_fpscr (s : State) (v : Word) : (s.setSgr v).fpscr = s.fpscr := rfl
@[simp] theorem State.setSgr_fa (s : State) (v : Word) : (s.setSgr v).fa = s.fa := rfl
@[simp] theorem State.setSgr_fb (s : State) (v : Word) : (s.setSgr v).fb = s.fb := rfl
@[simp] theorem State.setSgr_pteh (s : State) (v : Word) : (s.setSgr v).pteh = s.pteh := rfl
@[simp] theorem State.setSgr_ptel (s : State) (v : Word) : (s.setSgr v).ptel = s.ptel := rfl
@[simp] theorem State.setSgr_ttb (s : State) (v : Word) : (s.setSgr v).ttb = s.ttb := rfl
@[simp] theorem State.setSgr_tea (s : State) (v : Word) : (s.setSgr v).tea = s.tea := rfl
@[simp] theorem State.setSgr_mmucr (s : State) (v : Word) : (s.setSgr v).mmucr = s.mmucr := rfl
@[simp] theorem State.setSgr_traevt (s : State) (v : Word) : (s.setSgr v).traevt = s.traevt := rfl
@[simp] theorem State.setSgr_expevt (s : State) (v : Word) : (s.setSgr v).expevt = s.expevt := rfl
@[simp] theorem State.setSgr_intevt (s : State) (v : Word) : (s.setSgr v).intevt = s.intevt := rfl
@[simp] theorem State.setSgr_mem (s : State) (v : Word) : (s.setSgr v).mem = s.mem := rfl
@[simp] theorem State.setSgr_stale (s : State) (v : Word) : (s.setSgr v).stale = s.stale := rfl
@[simp] theorem State.setSgr_asleep (s : State) (v : Word) : (s.setSgr v).asleep = s.asleep := rfl
@[simp] theorem State.setSgr_events (s : State) (v : Word) : (s.setSgr v).events = s.events := rfl
@[simp] theorem State.setSgr_free (s : State) (v : Word) : (s.setSgr v).free = s.free := rfl
@[simp] theorem State.setSgr_devLog (s : State) (v : Word) : (s.setSgr v).devLog = s.devLog := rfl
@[simp] theorem State.setSgr_cfg (s : State) (v : Word) : (s.setSgr v).cfg = s.cfg := rfl

/-! ### `setDbr` -/

@[simp] theorem State.setDbr_bankA (s : State) (v : Word) : (s.setDbr v).bankA = s.bankA := rfl
@[simp] theorem State.setDbr_bankB (s : State) (v : Word) : (s.setDbr v).bankB = s.bankB := rfl
@[simp] theorem State.setDbr_high (s : State) (v : Word) : (s.setDbr v).high = s.high := rfl
@[simp] theorem State.setDbr_pc (s : State) (v : Word) : (s.setDbr v).pc = s.pc := rfl
@[simp] theorem State.setDbr_pending (s : State) (v : Word) : (s.setDbr v).pending = s.pending := rfl
@[simp] theorem State.setDbr_sr (s : State) (v : Word) : (s.setDbr v).sr = s.sr := rfl
@[simp] theorem State.setDbr_gbr (s : State) (v : Word) : (s.setDbr v).gbr = s.gbr := rfl
@[simp] theorem State.setDbr_vbr (s : State) (v : Word) : (s.setDbr v).vbr = s.vbr := rfl
@[simp] theorem State.setDbr_ssr (s : State) (v : Word) : (s.setDbr v).ssr = s.ssr := rfl
@[simp] theorem State.setDbr_spc (s : State) (v : Word) : (s.setDbr v).spc = s.spc := rfl
@[simp] theorem State.setDbr_sgr (s : State) (v : Word) : (s.setDbr v).sgr = s.sgr := rfl
@[simp] theorem State.setDbr_dbr (s : State) (v : Word) : (s.setDbr v).dbr = v := rfl
@[simp] theorem State.setDbr_mach (s : State) (v : Word) : (s.setDbr v).mach = s.mach := rfl
@[simp] theorem State.setDbr_macl (s : State) (v : Word) : (s.setDbr v).macl = s.macl := rfl
@[simp] theorem State.setDbr_pr (s : State) (v : Word) : (s.setDbr v).pr = s.pr := rfl
@[simp] theorem State.setDbr_fpul (s : State) (v : Word) : (s.setDbr v).fpul = s.fpul := rfl
@[simp] theorem State.setDbr_fpscr (s : State) (v : Word) : (s.setDbr v).fpscr = s.fpscr := rfl
@[simp] theorem State.setDbr_fa (s : State) (v : Word) : (s.setDbr v).fa = s.fa := rfl
@[simp] theorem State.setDbr_fb (s : State) (v : Word) : (s.setDbr v).fb = s.fb := rfl
@[simp] theorem State.setDbr_pteh (s : State) (v : Word) : (s.setDbr v).pteh = s.pteh := rfl
@[simp] theorem State.setDbr_ptel (s : State) (v : Word) : (s.setDbr v).ptel = s.ptel := rfl
@[simp] theorem State.setDbr_ttb (s : State) (v : Word) : (s.setDbr v).ttb = s.ttb := rfl
@[simp] theorem State.setDbr_tea (s : State) (v : Word) : (s.setDbr v).tea = s.tea := rfl
@[simp] theorem State.setDbr_mmucr (s : State) (v : Word) : (s.setDbr v).mmucr = s.mmucr := rfl
@[simp] theorem State.setDbr_traevt (s : State) (v : Word) : (s.setDbr v).traevt = s.traevt := rfl
@[simp] theorem State.setDbr_expevt (s : State) (v : Word) : (s.setDbr v).expevt = s.expevt := rfl
@[simp] theorem State.setDbr_intevt (s : State) (v : Word) : (s.setDbr v).intevt = s.intevt := rfl
@[simp] theorem State.setDbr_mem (s : State) (v : Word) : (s.setDbr v).mem = s.mem := rfl
@[simp] theorem State.setDbr_stale (s : State) (v : Word) : (s.setDbr v).stale = s.stale := rfl
@[simp] theorem State.setDbr_asleep (s : State) (v : Word) : (s.setDbr v).asleep = s.asleep := rfl
@[simp] theorem State.setDbr_events (s : State) (v : Word) : (s.setDbr v).events = s.events := rfl
@[simp] theorem State.setDbr_free (s : State) (v : Word) : (s.setDbr v).free = s.free := rfl
@[simp] theorem State.setDbr_devLog (s : State) (v : Word) : (s.setDbr v).devLog = s.devLog := rfl
@[simp] theorem State.setDbr_cfg (s : State) (v : Word) : (s.setDbr v).cfg = s.cfg := rfl

/-! ### `setMach` -/

@[simp] theorem State.setMach_bankA (s : State) (v : Word) : (s.setMach v).bankA = s.bankA := rfl
@[simp] theorem State.setMach_bankB (s : State) (v : Word) : (s.setMach v).bankB = s.bankB := rfl
@[simp] theorem State.setMach_high (s : State) (v : Word) : (s.setMach v).high = s.high := rfl
@[simp] theorem State.setMach_pc (s : State) (v : Word) : (s.setMach v).pc = s.pc := rfl
@[simp] theorem State.setMach_pending (s : State) (v : Word) : (s.setMach v).pending = s.pending := rfl
@[simp] theorem State.setMach_sr (s : State) (v : Word) : (s.setMach v).sr = s.sr := rfl
@[simp] theorem State.setMach_gbr (s : State) (v : Word) : (s.setMach v).gbr = s.gbr := rfl
@[simp] theorem State.setMach_vbr (s : State) (v : Word) : (s.setMach v).vbr = s.vbr := rfl
@[simp] theorem State.setMach_ssr (s : State) (v : Word) : (s.setMach v).ssr = s.ssr := rfl
@[simp] theorem State.setMach_spc (s : State) (v : Word) : (s.setMach v).spc = s.spc := rfl
@[simp] theorem State.setMach_sgr (s : State) (v : Word) : (s.setMach v).sgr = s.sgr := rfl
@[simp] theorem State.setMach_dbr (s : State) (v : Word) : (s.setMach v).dbr = s.dbr := rfl
@[simp] theorem State.setMach_mach (s : State) (v : Word) : (s.setMach v).mach = v := rfl
@[simp] theorem State.setMach_macl (s : State) (v : Word) : (s.setMach v).macl = s.macl := rfl
@[simp] theorem State.setMach_pr (s : State) (v : Word) : (s.setMach v).pr = s.pr := rfl
@[simp] theorem State.setMach_fpul (s : State) (v : Word) : (s.setMach v).fpul = s.fpul := rfl
@[simp] theorem State.setMach_fpscr (s : State) (v : Word) : (s.setMach v).fpscr = s.fpscr := rfl
@[simp] theorem State.setMach_fa (s : State) (v : Word) : (s.setMach v).fa = s.fa := rfl
@[simp] theorem State.setMach_fb (s : State) (v : Word) : (s.setMach v).fb = s.fb := rfl
@[simp] theorem State.setMach_pteh (s : State) (v : Word) : (s.setMach v).pteh = s.pteh := rfl
@[simp] theorem State.setMach_ptel (s : State) (v : Word) : (s.setMach v).ptel = s.ptel := rfl
@[simp] theorem State.setMach_ttb (s : State) (v : Word) : (s.setMach v).ttb = s.ttb := rfl
@[simp] theorem State.setMach_tea (s : State) (v : Word) : (s.setMach v).tea = s.tea := rfl
@[simp] theorem State.setMach_mmucr (s : State) (v : Word) : (s.setMach v).mmucr = s.mmucr := rfl
@[simp] theorem State.setMach_traevt (s : State) (v : Word) : (s.setMach v).traevt = s.traevt := rfl
@[simp] theorem State.setMach_expevt (s : State) (v : Word) : (s.setMach v).expevt = s.expevt := rfl
@[simp] theorem State.setMach_intevt (s : State) (v : Word) : (s.setMach v).intevt = s.intevt := rfl
@[simp] theorem State.setMach_mem (s : State) (v : Word) : (s.setMach v).mem = s.mem := rfl
@[simp] theorem State.setMach_stale (s : State) (v : Word) : (s.setMach v).stale = s.stale := rfl
@[simp] theorem State.setMach_asleep (s : State) (v : Word) : (s.setMach v).asleep = s.asleep := rfl
@[simp] theorem State.setMach_events (s : State) (v : Word) : (s.setMach v).events = s.events := rfl
@[simp] theorem State.setMach_free (s : State) (v : Word) : (s.setMach v).free = s.free := rfl
@[simp] theorem State.setMach_devLog (s : State) (v : Word) : (s.setMach v).devLog = s.devLog := rfl
@[simp] theorem State.setMach_cfg (s : State) (v : Word) : (s.setMach v).cfg = s.cfg := rfl

/-! ### `setMacl` -/

@[simp] theorem State.setMacl_bankA (s : State) (v : Word) : (s.setMacl v).bankA = s.bankA := rfl
@[simp] theorem State.setMacl_bankB (s : State) (v : Word) : (s.setMacl v).bankB = s.bankB := rfl
@[simp] theorem State.setMacl_high (s : State) (v : Word) : (s.setMacl v).high = s.high := rfl
@[simp] theorem State.setMacl_pc (s : State) (v : Word) : (s.setMacl v).pc = s.pc := rfl
@[simp] theorem State.setMacl_pending (s : State) (v : Word) : (s.setMacl v).pending = s.pending := rfl
@[simp] theorem State.setMacl_sr (s : State) (v : Word) : (s.setMacl v).sr = s.sr := rfl
@[simp] theorem State.setMacl_gbr (s : State) (v : Word) : (s.setMacl v).gbr = s.gbr := rfl
@[simp] theorem State.setMacl_vbr (s : State) (v : Word) : (s.setMacl v).vbr = s.vbr := rfl
@[simp] theorem State.setMacl_ssr (s : State) (v : Word) : (s.setMacl v).ssr = s.ssr := rfl
@[simp] theorem State.setMacl_spc (s : State) (v : Word) : (s.setMacl v).spc = s.spc := rfl
@[simp] theorem State.setMacl_sgr (s : State) (v : Word) : (s.setMacl v).sgr = s.sgr := rfl
@[simp] theorem State.setMacl_dbr (s : State) (v : Word) : (s.setMacl v).dbr = s.dbr := rfl
@[simp] theorem State.setMacl_mach (s : State) (v : Word) : (s.setMacl v).mach = s.mach := rfl
@[simp] theorem State.setMacl_macl (s : State) (v : Word) : (s.setMacl v).macl = v := rfl
@[simp] theorem State.setMacl_pr (s : State) (v : Word) : (s.setMacl v).pr = s.pr := rfl
@[simp] theorem State.setMacl_fpul (s : State) (v : Word) : (s.setMacl v).fpul = s.fpul := rfl
@[simp] theorem State.setMacl_fpscr (s : State) (v : Word) : (s.setMacl v).fpscr = s.fpscr := rfl
@[simp] theorem State.setMacl_fa (s : State) (v : Word) : (s.setMacl v).fa = s.fa := rfl
@[simp] theorem State.setMacl_fb (s : State) (v : Word) : (s.setMacl v).fb = s.fb := rfl
@[simp] theorem State.setMacl_pteh (s : State) (v : Word) : (s.setMacl v).pteh = s.pteh := rfl
@[simp] theorem State.setMacl_ptel (s : State) (v : Word) : (s.setMacl v).ptel = s.ptel := rfl
@[simp] theorem State.setMacl_ttb (s : State) (v : Word) : (s.setMacl v).ttb = s.ttb := rfl
@[simp] theorem State.setMacl_tea (s : State) (v : Word) : (s.setMacl v).tea = s.tea := rfl
@[simp] theorem State.setMacl_mmucr (s : State) (v : Word) : (s.setMacl v).mmucr = s.mmucr := rfl
@[simp] theorem State.setMacl_traevt (s : State) (v : Word) : (s.setMacl v).traevt = s.traevt := rfl
@[simp] theorem State.setMacl_expevt (s : State) (v : Word) : (s.setMacl v).expevt = s.expevt := rfl
@[simp] theorem State.setMacl_intevt (s : State) (v : Word) : (s.setMacl v).intevt = s.intevt := rfl
@[simp] theorem State.setMacl_mem (s : State) (v : Word) : (s.setMacl v).mem = s.mem := rfl
@[simp] theorem State.setMacl_stale (s : State) (v : Word) : (s.setMacl v).stale = s.stale := rfl
@[simp] theorem State.setMacl_asleep (s : State) (v : Word) : (s.setMacl v).asleep = s.asleep := rfl
@[simp] theorem State.setMacl_events (s : State) (v : Word) : (s.setMacl v).events = s.events := rfl
@[simp] theorem State.setMacl_free (s : State) (v : Word) : (s.setMacl v).free = s.free := rfl
@[simp] theorem State.setMacl_devLog (s : State) (v : Word) : (s.setMacl v).devLog = s.devLog := rfl
@[simp] theorem State.setMacl_cfg (s : State) (v : Word) : (s.setMacl v).cfg = s.cfg := rfl

/-! ### `setPr` -/

@[simp] theorem State.setPr_bankA (s : State) (v : Word) : (s.setPr v).bankA = s.bankA := rfl
@[simp] theorem State.setPr_bankB (s : State) (v : Word) : (s.setPr v).bankB = s.bankB := rfl
@[simp] theorem State.setPr_high (s : State) (v : Word) : (s.setPr v).high = s.high := rfl
@[simp] theorem State.setPr_pc (s : State) (v : Word) : (s.setPr v).pc = s.pc := rfl
@[simp] theorem State.setPr_pending (s : State) (v : Word) : (s.setPr v).pending = s.pending := rfl
@[simp] theorem State.setPr_sr (s : State) (v : Word) : (s.setPr v).sr = s.sr := rfl
@[simp] theorem State.setPr_gbr (s : State) (v : Word) : (s.setPr v).gbr = s.gbr := rfl
@[simp] theorem State.setPr_vbr (s : State) (v : Word) : (s.setPr v).vbr = s.vbr := rfl
@[simp] theorem State.setPr_ssr (s : State) (v : Word) : (s.setPr v).ssr = s.ssr := rfl
@[simp] theorem State.setPr_spc (s : State) (v : Word) : (s.setPr v).spc = s.spc := rfl
@[simp] theorem State.setPr_sgr (s : State) (v : Word) : (s.setPr v).sgr = s.sgr := rfl
@[simp] theorem State.setPr_dbr (s : State) (v : Word) : (s.setPr v).dbr = s.dbr := rfl
@[simp] theorem State.setPr_mach (s : State) (v : Word) : (s.setPr v).mach = s.mach := rfl
@[simp] theorem State.setPr_macl (s : State) (v : Word) : (s.setPr v).macl = s.macl := rfl
@[simp] theorem State.setPr_pr (s : State) (v : Word) : (s.setPr v).pr = v := rfl
@[simp] theorem State.setPr_fpul (s : State) (v : Word) : (s.setPr v).fpul = s.fpul := rfl
@[simp] theorem State.setPr_fpscr (s : State) (v : Word) : (s.setPr v).fpscr = s.fpscr := rfl
@[simp] theorem State.setPr_fa (s : State) (v : Word) : (s.setPr v).fa = s.fa := rfl
@[simp] theorem State.setPr_fb (s : State) (v : Word) : (s.setPr v).fb = s.fb := rfl
@[simp] theorem State.setPr_pteh (s : State) (v : Word) : (s.setPr v).pteh = s.pteh := rfl
@[simp] theorem State.setPr_ptel (s : State) (v : Word) : (s.setPr v).ptel = s.ptel := rfl
@[simp] theorem State.setPr_ttb (s : State) (v : Word) : (s.setPr v).ttb = s.ttb := rfl
@[simp] theorem State.setPr_tea (s : State) (v : Word) : (s.setPr v).tea = s.tea := rfl
@[simp] theorem State.setPr_mmucr (s : State) (v : Word) : (s.setPr v).mmucr = s.mmucr := rfl
@[simp] theorem State.setPr_traevt (s : State) (v : Word) : (s.setPr v).traevt = s.traevt := rfl
@[simp] theorem State.setPr_expevt (s : State) (v : Word) : (s.setPr v).expevt = s.expevt := rfl
@[simp] theorem State.setPr_intevt (s : State) (v : Word) : (s.setPr v).intevt = s.intevt := rfl
@[simp] theorem State.setPr_mem (s : State) (v : Word) : (s.setPr v).mem = s.mem := rfl
@[simp] theorem State.setPr_stale (s : State) (v : Word) : (s.setPr v).stale = s.stale := rfl
@[simp] theorem State.setPr_asleep (s : State) (v : Word) : (s.setPr v).asleep = s.asleep := rfl
@[simp] theorem State.setPr_events (s : State) (v : Word) : (s.setPr v).events = s.events := rfl
@[simp] theorem State.setPr_free (s : State) (v : Word) : (s.setPr v).free = s.free := rfl
@[simp] theorem State.setPr_devLog (s : State) (v : Word) : (s.setPr v).devLog = s.devLog := rfl
@[simp] theorem State.setPr_cfg (s : State) (v : Word) : (s.setPr v).cfg = s.cfg := rfl

/-! ### `setFpul` -/

@[simp] theorem State.setFpul_bankA (s : State) (v : Word) : (s.setFpul v).bankA = s.bankA := rfl
@[simp] theorem State.setFpul_bankB (s : State) (v : Word) : (s.setFpul v).bankB = s.bankB := rfl
@[simp] theorem State.setFpul_high (s : State) (v : Word) : (s.setFpul v).high = s.high := rfl
@[simp] theorem State.setFpul_pc (s : State) (v : Word) : (s.setFpul v).pc = s.pc := rfl
@[simp] theorem State.setFpul_pending (s : State) (v : Word) : (s.setFpul v).pending = s.pending := rfl
@[simp] theorem State.setFpul_sr (s : State) (v : Word) : (s.setFpul v).sr = s.sr := rfl
@[simp] theorem State.setFpul_gbr (s : State) (v : Word) : (s.setFpul v).gbr = s.gbr := rfl
@[simp] theorem State.setFpul_vbr (s : State) (v : Word) : (s.setFpul v).vbr = s.vbr := rfl
@[simp] theorem State.setFpul_ssr (s : State) (v : Word) : (s.setFpul v).ssr = s.ssr := rfl
@[simp] theorem State.setFpul_spc (s : State) (v : Word) : (s.setFpul v).spc = s.spc := rfl
@[simp] theorem State.setFpul_sgr (s : State) (v : Word) : (s.setFpul v).sgr = s.sgr := rfl
@[simp] theorem State.setFpul_dbr (s : State) (v : Word) : (s.setFpul v).dbr = s.dbr := rfl
@[simp] theorem State.setFpul_mach (s : State) (v : Word) : (s.setFpul v).mach = s.mach := rfl
@[simp] theorem State.setFpul_macl (s : State) (v : Word) : (s.setFpul v).macl = s.macl := rfl
@[simp] theorem State.setFpul_pr (s : State) (v : Word) : (s.setFpul v).pr = s.pr := rfl
@[simp] theorem State.setFpul_fpul (s : State) (v : Word) : (s.setFpul v).fpul = v := rfl
@[simp] theorem State.setFpul_fpscr (s : State) (v : Word) : (s.setFpul v).fpscr = s.fpscr := rfl
@[simp] theorem State.setFpul_fa (s : State) (v : Word) : (s.setFpul v).fa = s.fa := rfl
@[simp] theorem State.setFpul_fb (s : State) (v : Word) : (s.setFpul v).fb = s.fb := rfl
@[simp] theorem State.setFpul_pteh (s : State) (v : Word) : (s.setFpul v).pteh = s.pteh := rfl
@[simp] theorem State.setFpul_ptel (s : State) (v : Word) : (s.setFpul v).ptel = s.ptel := rfl
@[simp] theorem State.setFpul_ttb (s : State) (v : Word) : (s.setFpul v).ttb = s.ttb := rfl
@[simp] theorem State.setFpul_tea (s : State) (v : Word) : (s.setFpul v).tea = s.tea := rfl
@[simp] theorem State.setFpul_mmucr (s : State) (v : Word) : (s.setFpul v).mmucr = s.mmucr := rfl
@[simp] theorem State.setFpul_traevt (s : State) (v : Word) : (s.setFpul v).traevt = s.traevt := rfl
@[simp] theorem State.setFpul_expevt (s : State) (v : Word) : (s.setFpul v).expevt = s.expevt := rfl
@[simp] theorem State.setFpul_intevt (s : State) (v : Word) : (s.setFpul v).intevt = s.intevt := rfl
@[simp] theorem State.setFpul_mem (s : State) (v : Word) : (s.setFpul v).mem = s.mem := rfl
@[simp] theorem State.setFpul_stale (s : State) (v : Word) : (s.setFpul v).stale = s.stale := rfl
@[simp] theorem State.setFpul_asleep (s : State) (v : Word) : (s.setFpul v).asleep = s.asleep := rfl
@[simp] theorem State.setFpul_events (s : State) (v : Word) : (s.setFpul v).events = s.events := rfl
@[simp] theorem State.setFpul_free (s : State) (v : Word) : (s.setFpul v).free = s.free := rfl
@[simp] theorem State.setFpul_devLog (s : State) (v : Word) : (s.setFpul v).devLog = s.devLog := rfl
@[simp] theorem State.setFpul_cfg (s : State) (v : Word) : (s.setFpul v).cfg = s.cfg := rfl

/-! ### `setFpscr` -/

@[simp] theorem State.setFpscr_bankA (s : State) (v : Word) : (s.setFpscr v).bankA = s.bankA := rfl
@[simp] theorem State.setFpscr_bankB (s : State) (v : Word) : (s.setFpscr v).bankB = s.bankB := rfl
@[simp] theorem State.setFpscr_high (s : State) (v : Word) : (s.setFpscr v).high = s.high := rfl
@[simp] theorem State.setFpscr_pc (s : State) (v : Word) : (s.setFpscr v).pc = s.pc := rfl
@[simp] theorem State.setFpscr_pending (s : State) (v : Word) : (s.setFpscr v).pending = s.pending := rfl
@[simp] theorem State.setFpscr_sr (s : State) (v : Word) : (s.setFpscr v).sr = s.sr := rfl
@[simp] theorem State.setFpscr_gbr (s : State) (v : Word) : (s.setFpscr v).gbr = s.gbr := rfl
@[simp] theorem State.setFpscr_vbr (s : State) (v : Word) : (s.setFpscr v).vbr = s.vbr := rfl
@[simp] theorem State.setFpscr_ssr (s : State) (v : Word) : (s.setFpscr v).ssr = s.ssr := rfl
@[simp] theorem State.setFpscr_spc (s : State) (v : Word) : (s.setFpscr v).spc = s.spc := rfl
@[simp] theorem State.setFpscr_sgr (s : State) (v : Word) : (s.setFpscr v).sgr = s.sgr := rfl
@[simp] theorem State.setFpscr_dbr (s : State) (v : Word) : (s.setFpscr v).dbr = s.dbr := rfl
@[simp] theorem State.setFpscr_mach (s : State) (v : Word) : (s.setFpscr v).mach = s.mach := rfl
@[simp] theorem State.setFpscr_macl (s : State) (v : Word) : (s.setFpscr v).macl = s.macl := rfl
@[simp] theorem State.setFpscr_pr (s : State) (v : Word) : (s.setFpscr v).pr = s.pr := rfl
@[simp] theorem State.setFpscr_fpul (s : State) (v : Word) : (s.setFpscr v).fpul = s.fpul := rfl
@[simp] theorem State.setFpscr_fpscr (s : State) (v : Word) : (s.setFpscr v).fpscr = v := rfl
@[simp] theorem State.setFpscr_fa (s : State) (v : Word) : (s.setFpscr v).fa = s.fa := rfl
@[simp] theorem State.setFpscr_fb (s : State) (v : Word) : (s.setFpscr v).fb = s.fb := rfl
@[simp] theorem State.setFpscr_pteh (s : State) (v : Word) : (s.setFpscr v).pteh = s.pteh := rfl
@[simp] theorem State.setFpscr_ptel (s : State) (v : Word) : (s.setFpscr v).ptel = s.ptel := rfl
@[simp] theorem State.setFpscr_ttb (s : State) (v : Word) : (s.setFpscr v).ttb = s.ttb := rfl
@[simp] theorem State.setFpscr_tea (s : State) (v : Word) : (s.setFpscr v).tea = s.tea := rfl
@[simp] theorem State.setFpscr_mmucr (s : State) (v : Word) : (s.setFpscr v).mmucr = s.mmucr := rfl
@[simp] theorem State.setFpscr_traevt (s : State) (v : Word) : (s.setFpscr v).traevt = s.traevt := rfl
@[simp] theorem State.setFpscr_expevt (s : State) (v : Word) : (s.setFpscr v).expevt = s.expevt := rfl
@[simp] theorem State.setFpscr_intevt (s : State) (v : Word) : (s.setFpscr v).intevt = s.intevt := rfl
@[simp] theorem State.setFpscr_mem (s : State) (v : Word) : (s.setFpscr v).mem = s.mem := rfl
@[simp] theorem State.setFpscr_stale (s : State) (v : Word) : (s.setFpscr v).stale = s.stale := rfl
@[simp] theorem State.setFpscr_asleep (s : State) (v : Word) : (s.setFpscr v).asleep = s.asleep := rfl
@[simp] theorem State.setFpscr_events (s : State) (v : Word) : (s.setFpscr v).events = s.events := rfl
@[simp] theorem State.setFpscr_free (s : State) (v : Word) : (s.setFpscr v).free = s.free := rfl
@[simp] theorem State.setFpscr_devLog (s : State) (v : Word) : (s.setFpscr v).devLog = s.devLog := rfl
@[simp] theorem State.setFpscr_cfg (s : State) (v : Word) : (s.setFpscr v).cfg = s.cfg := rfl

/-! ### `deviceRead` -/

@[simp] theorem State.deviceRead_bankA (s : State) (pa : Nat) (w : Width) : (s.deviceRead pa w).bankA = s.bankA := rfl
@[simp] theorem State.deviceRead_bankB (s : State) (pa : Nat) (w : Width) : (s.deviceRead pa w).bankB = s.bankB := rfl
@[simp] theorem State.deviceRead_high (s : State) (pa : Nat) (w : Width) : (s.deviceRead pa w).high = s.high := rfl
@[simp] theorem State.deviceRead_pc (s : State) (pa : Nat) (w : Width) : (s.deviceRead pa w).pc = s.pc := rfl
@[simp] theorem State.deviceRead_pending (s : State) (pa : Nat) (w : Width) : (s.deviceRead pa w).pending = s.pending := rfl
@[simp] theorem State.deviceRead_sr (s : State) (pa : Nat) (w : Width) : (s.deviceRead pa w).sr = s.sr := rfl
@[simp] theorem State.deviceRead_gbr (s : State) (pa : Nat) (w : Width) : (s.deviceRead pa w).gbr = s.gbr := rfl
@[simp] theorem State.deviceRead_vbr (s : State) (pa : Nat) (w : Width) : (s.deviceRead pa w).vbr = s.vbr := rfl
@[simp] theorem State.deviceRead_ssr (s : State) (pa : Nat) (w : Width) : (s.deviceRead pa w).ssr = s.ssr := rfl
@[simp] theorem State.deviceRead_spc (s : State) (pa : Nat) (w : Width) : (s.deviceRead pa w).spc = s.spc := rfl
@[simp] theorem State.deviceRead_sgr (s : State) (pa : Nat) (w : Width) : (s.deviceRead pa w).sgr = s.sgr := rfl
@[simp] theorem State.deviceRead_dbr (s : State) (pa : Nat) (w : Width) : (s.deviceRead pa w).dbr = s.dbr := rfl
@[simp] theorem State.deviceRead_mach (s : State) (pa : Nat) (w : Width) : (s.deviceRead pa w).mach = s.mach := rfl
@[simp] theorem State.deviceRead_macl (s : State) (pa : Nat) (w : Width) : (s.deviceRead pa w).macl = s.macl := rfl
@[simp] theorem State.deviceRead_pr (s : State) (pa : Nat) (w : Width) : (s.deviceRead pa w).pr = s.pr := rfl
@[simp] theorem State.deviceRead_fpul (s : State) (pa : Nat) (w : Width) : (s.deviceRead pa w).fpul = s.fpul := rfl
@[simp] theorem State.deviceRead_fpscr (s : State) (pa : Nat) (w : Width) : (s.deviceRead pa w).fpscr = s.fpscr := rfl
@[simp] theorem State.deviceRead_fa (s : State) (pa : Nat) (w : Width) : (s.deviceRead pa w).fa = s.fa := rfl
@[simp] theorem State.deviceRead_fb (s : State) (pa : Nat) (w : Width) : (s.deviceRead pa w).fb = s.fb := rfl
@[simp] theorem State.deviceRead_pteh (s : State) (pa : Nat) (w : Width) : (s.deviceRead pa w).pteh = s.pteh := rfl
@[simp] theorem State.deviceRead_ptel (s : State) (pa : Nat) (w : Width) : (s.deviceRead pa w).ptel = s.ptel := rfl
@[simp] theorem State.deviceRead_ttb (s : State) (pa : Nat) (w : Width) : (s.deviceRead pa w).ttb = s.ttb := rfl
@[simp] theorem State.deviceRead_tea (s : State) (pa : Nat) (w : Width) : (s.deviceRead pa w).tea = s.tea := rfl
@[simp] theorem State.deviceRead_mmucr (s : State) (pa : Nat) (w : Width) : (s.deviceRead pa w).mmucr = s.mmucr := rfl
@[simp] theorem State.deviceRead_traevt (s : State) (pa : Nat) (w : Width) : (s.deviceRead pa w).traevt = s.traevt := rfl
@[simp] theorem State.deviceRead_expevt (s : State) (pa : Nat) (w : Width) : (s.deviceRead pa w).expevt = s.expevt := rfl
@[simp] theorem State.deviceRead_intevt (s : State) (pa : Nat) (w : Width) : (s.deviceRead pa w).intevt = s.intevt := rfl
@[simp] theorem State.deviceRead_mem (s : State) (pa : Nat) (w : Width) : (s.deviceRead pa w).mem = s.mem := rfl
@[simp] theorem State.deviceRead_stale (s : State) (pa : Nat) (w : Width) : (s.deviceRead pa w).stale = s.stale := rfl
@[simp] theorem State.deviceRead_asleep (s : State) (pa : Nat) (w : Width) : (s.deviceRead pa w).asleep = s.asleep := rfl
@[simp] theorem State.deviceRead_events (s : State) (pa : Nat) (w : Width) : (s.deviceRead pa w).events = s.events := rfl
@[simp] theorem State.deviceRead_free (s : State) (pa : Nat) (w : Width) : (s.deviceRead pa w).free = s.free + 1 := rfl
@[simp] theorem State.deviceRead_devLog (s : State) (pa : Nat) (w : Width) : (s.deviceRead pa w).devLog = ⟨false, pa, w, w.trunc (Config.freeDevice s.free)⟩ :: s.devLog := rfl
@[simp] theorem State.deviceRead_cfg (s : State) (pa : Nat) (w : Width) : (s.deviceRead pa w).cfg = s.cfg := rfl

/-! ### `deviceWrite` -/

@[simp] theorem State.deviceWrite_bankA (s : State) (pa : Nat) (w : Width) (v : Word) : (s.deviceWrite pa w v).bankA = s.bankA := rfl
@[simp] theorem State.deviceWrite_bankB (s : State) (pa : Nat) (w : Width) (v : Word) : (s.deviceWrite pa w v).bankB = s.bankB := rfl
@[simp] theorem State.deviceWrite_high (s : State) (pa : Nat) (w : Width) (v : Word) : (s.deviceWrite pa w v).high = s.high := rfl
@[simp] theorem State.deviceWrite_pc (s : State) (pa : Nat) (w : Width) (v : Word) : (s.deviceWrite pa w v).pc = s.pc := rfl
@[simp] theorem State.deviceWrite_pending (s : State) (pa : Nat) (w : Width) (v : Word) : (s.deviceWrite pa w v).pending = s.pending := rfl
@[simp] theorem State.deviceWrite_sr (s : State) (pa : Nat) (w : Width) (v : Word) : (s.deviceWrite pa w v).sr = s.sr := rfl
@[simp] theorem State.deviceWrite_gbr (s : State) (pa : Nat) (w : Width) (v : Word) : (s.deviceWrite pa w v).gbr = s.gbr := rfl
@[simp] theorem State.deviceWrite_vbr (s : State) (pa : Nat) (w : Width) (v : Word) : (s.deviceWrite pa w v).vbr = s.vbr := rfl
@[simp] theorem State.deviceWrite_ssr (s : State) (pa : Nat) (w : Width) (v : Word) : (s.deviceWrite pa w v).ssr = s.ssr := rfl
@[simp] theorem State.deviceWrite_spc (s : State) (pa : Nat) (w : Width) (v : Word) : (s.deviceWrite pa w v).spc = s.spc := rfl
@[simp] theorem State.deviceWrite_sgr (s : State) (pa : Nat) (w : Width) (v : Word) : (s.deviceWrite pa w v).sgr = s.sgr := rfl
@[simp] theorem State.deviceWrite_dbr (s : State) (pa : Nat) (w : Width) (v : Word) : (s.deviceWrite pa w v).dbr = s.dbr := rfl
@[simp] theorem State.deviceWrite_mach (s : State) (pa : Nat) (w : Width) (v : Word) : (s.deviceWrite pa w v).mach = s.mach := rfl
@[simp] theorem State.deviceWrite_macl (s : State) (pa : Nat) (w : Width) (v : Word) : (s.deviceWrite pa w v).macl = s.macl := rfl
@[simp] theorem State.deviceWrite_pr (s : State) (pa : Nat) (w : Width) (v : Word) : (s.deviceWrite pa w v).pr = s.pr := rfl
@[simp] theorem State.deviceWrite_fpul (s : State) (pa : Nat) (w : Width) (v : Word) : (s.deviceWrite pa w v).fpul = s.fpul := rfl
@[simp] theorem State.deviceWrite_fpscr (s : State) (pa : Nat) (w : Width) (v : Word) : (s.deviceWrite pa w v).fpscr = s.fpscr := rfl
@[simp] theorem State.deviceWrite_fa (s : State) (pa : Nat) (w : Width) (v : Word) : (s.deviceWrite pa w v).fa = s.fa := rfl
@[simp] theorem State.deviceWrite_fb (s : State) (pa : Nat) (w : Width) (v : Word) : (s.deviceWrite pa w v).fb = s.fb := rfl
@[simp] theorem State.deviceWrite_pteh (s : State) (pa : Nat) (w : Width) (v : Word) : (s.deviceWrite pa w v).pteh = s.pteh := rfl
@[simp] theorem State.deviceWrite_ptel (s : State) (pa : Nat) (w : Width) (v : Word) : (s.deviceWrite pa w v).ptel = s.ptel := rfl
@[simp] theorem State.deviceWrite_ttb (s : State) (pa : Nat) (w : Width) (v : Word) : (s.deviceWrite pa w v).ttb = s.ttb := rfl
@[simp] theorem State.deviceWrite_tea (s : State) (pa : Nat) (w : Width) (v : Word) : (s.deviceWrite pa w v).tea = s.tea := rfl
@[simp] theorem State.deviceWrite_mmucr (s : State) (pa : Nat) (w : Width) (v : Word) : (s.deviceWrite pa w v).mmucr = s.mmucr := rfl
@[simp] theorem State.deviceWrite_traevt (s : State) (pa : Nat) (w : Width) (v : Word) : (s.deviceWrite pa w v).traevt = s.traevt := rfl
@[simp] theorem State.deviceWrite_expevt (s : State) (pa : Nat) (w : Width) (v : Word) : (s.deviceWrite pa w v).expevt = s.expevt := rfl
@[simp] theorem State.deviceWrite_intevt (s : State) (pa : Nat) (w : Width) (v : Word) : (s.deviceWrite pa w v).intevt = s.intevt := rfl
@[simp] theorem State.deviceWrite_mem (s : State) (pa : Nat) (w : Width) (v : Word) : (s.deviceWrite pa w v).mem = s.mem := rfl
@[simp] theorem State.deviceWrite_stale (s : State) (pa : Nat) (w : Width) (v : Word) : (s.deviceWrite pa w v).stale = s.stale := rfl
@[simp] theorem State.deviceWrite_asleep (s : State) (pa : Nat) (w : Width) (v : Word) : (s.deviceWrite pa w v).asleep = s.asleep := rfl
@[simp] theorem State.deviceWrite_events (s : State) (pa : Nat) (w : Width) (v : Word) : (s.deviceWrite pa w v).events = s.events := rfl
@[simp] theorem State.deviceWrite_free (s : State) (pa : Nat) (w : Width) (v : Word) : (s.deviceWrite pa w v).free = s.free := rfl
@[simp] theorem State.deviceWrite_devLog (s : State) (pa : Nat) (w : Width) (v : Word) : (s.deviceWrite pa w v).devLog = ⟨true, pa, w, w.trunc v⟩ :: s.devLog := rfl
@[simp] theorem State.deviceWrite_cfg (s : State) (pa : Nat) (w : Width) (v : Word) : (s.deviceWrite pa w v).cfg = s.cfg := rfl

/-! ### `memoryWrite` -/

@[simp] theorem State.memoryWrite_bankA (s : State) (pa : Nat) (w : Width) (v : Word) : (s.memoryWrite pa w v).bankA = s.bankA := rfl
@[simp] theorem State.memoryWrite_bankB (s : State) (pa : Nat) (w : Width) (v : Word) : (s.memoryWrite pa w v).bankB = s.bankB := rfl
@[simp] theorem State.memoryWrite_high (s : State) (pa : Nat) (w : Width) (v : Word) : (s.memoryWrite pa w v).high = s.high := rfl
@[simp] theorem State.memoryWrite_pc (s : State) (pa : Nat) (w : Width) (v : Word) : (s.memoryWrite pa w v).pc = s.pc := rfl
@[simp] theorem State.memoryWrite_pending (s : State) (pa : Nat) (w : Width) (v : Word) : (s.memoryWrite pa w v).pending = s.pending := rfl
@[simp] theorem State.memoryWrite_sr (s : State) (pa : Nat) (w : Width) (v : Word) : (s.memoryWrite pa w v).sr = s.sr := rfl
@[simp] theorem State.memoryWrite_gbr (s : State) (pa : Nat) (w : Width) (v : Word) : (s.memoryWrite pa w v).gbr = s.gbr := rfl
@[simp] theorem State.memoryWrite_vbr (s : State) (pa : Nat) (w : Width) (v : Word) : (s.memoryWrite pa w v).vbr = s.vbr := rfl
@[simp] theorem State.memoryWrite_ssr (s : State) (pa : Nat) (w : Width) (v : Word) : (s.memoryWrite pa w v).ssr = s.ssr := rfl
@[simp] theorem State.memoryWrite_spc (s : State) (pa : Nat) (w : Width) (v : Word) : (s.memoryWrite pa w v).spc = s.spc := rfl
@[simp] theorem State.memoryWrite_sgr (s : State) (pa : Nat) (w : Width) (v : Word) : (s.memoryWrite pa w v).sgr = s.sgr := rfl
@[simp] theorem State.memoryWrite_dbr (s : State) (pa : Nat) (w : Width) (v : Word) : (s.memoryWrite pa w v).dbr = s.dbr := rfl
@[simp] theorem State.memoryWrite_mach (s : State) (pa : Nat) (w : Width) (v : Word) : (s.memoryWrite pa w v).mach = s.mach := rfl
@[simp] theorem State.memoryWrite_macl (s : State) (pa : Nat) (w : Width) (v : Word) : (s.memoryWrite pa w v).macl = s.macl := rfl
@[simp] theorem State.memoryWrite_pr (s : State) (pa : Nat) (w : Width) (v : Word) : (s.memoryWrite pa w v).pr = s.pr := rfl
@[simp] theorem State.memoryWrite_fpul (s : State) (pa : Nat) (w : Width) (v : Word) : (s.memoryWrite pa w v).fpul = s.fpul := rfl
@[simp] theorem State.memoryWrite_fpscr (s : State) (pa : Nat) (w : Width) (v : Word) : (s.memoryWrite pa w v).fpscr = s.fpscr := rfl
@[simp] theorem State.memoryWrite_fa (s : State) (pa : Nat) (w : Width) (v : Word) : (s.memoryWrite pa w v).fa = s.fa := rfl
@[simp] theorem State.memoryWrite_fb (s : State) (pa : Nat) (w : Width) (v : Word) : (s.memoryWrite pa w v).fb = s.fb := rfl
@[simp] theorem State.memoryWrite_pteh (s : State) (pa : Nat) (w : Width) (v : Word) : (s.memoryWrite pa w v).pteh = s.pteh := rfl
@[simp] theorem State.memoryWrite_ptel (s : State) (pa : Nat) (w : Width) (v : Word) : (s.memoryWrite pa w v).ptel = s.ptel := rfl
@[simp] theorem State.memoryWrite_ttb (s : State) (pa : Nat) (w : Width) (v : Word) : (s.memoryWrite pa w v).ttb = s.ttb := rfl
@[simp] theorem State.memoryWrite_tea (s : State) (pa : Nat) (w : Width) (v : Word) : (s.memoryWrite pa w v).tea = s.tea := rfl
@[simp] theorem State.memoryWrite_mmucr (s : State) (pa : Nat) (w : Width) (v : Word) : (s.memoryWrite pa w v).mmucr = s.mmucr := rfl
@[simp] theorem State.memoryWrite_traevt (s : State) (pa : Nat) (w : Width) (v : Word) : (s.memoryWrite pa w v).traevt = s.traevt := rfl
@[simp] theorem State.memoryWrite_expevt (s : State) (pa : Nat) (w : Width) (v : Word) : (s.memoryWrite pa w v).expevt = s.expevt := rfl
@[simp] theorem State.memoryWrite_intevt (s : State) (pa : Nat) (w : Width) (v : Word) : (s.memoryWrite pa w v).intevt = s.intevt := rfl
@[simp] theorem State.memoryWrite_mem (s : State) (pa : Nat) (w : Width) (v : Word) : (s.memoryWrite pa w v).mem = memSetList s.mem pa (bytesOf s.cfg.endian w v) := rfl
@[simp] theorem State.memoryWrite_stale (s : State) (pa : Nat) (w : Width) (v : Word) : (s.memoryWrite pa w v).stale = noteStores s.mem s.stale pa (bytesOf s.cfg.endian w v) := rfl
@[simp] theorem State.memoryWrite_asleep (s : State) (pa : Nat) (w : Width) (v : Word) : (s.memoryWrite pa w v).asleep = s.asleep := rfl
@[simp] theorem State.memoryWrite_events (s : State) (pa : Nat) (w : Width) (v : Word) : (s.memoryWrite pa w v).events = s.events := rfl
@[simp] theorem State.memoryWrite_free (s : State) (pa : Nat) (w : Width) (v : Word) : (s.memoryWrite pa w v).free = s.free := rfl
@[simp] theorem State.memoryWrite_devLog (s : State) (pa : Nat) (w : Width) (v : Word) : (s.memoryWrite pa w v).devLog = s.devLog := rfl
@[simp] theorem State.memoryWrite_cfg (s : State) (pa : Nat) (w : Width) (v : Word) : (s.memoryWrite pa w v).cfg = s.cfg := rfl

/-! ### `invalidate` -/

@[simp] theorem State.invalidate_bankA (s : State) (pa : Word) : (s.invalidate pa).bankA = s.bankA := rfl
@[simp] theorem State.invalidate_bankB (s : State) (pa : Word) : (s.invalidate pa).bankB = s.bankB := rfl
@[simp] theorem State.invalidate_high (s : State) (pa : Word) : (s.invalidate pa).high = s.high := rfl
@[simp] theorem State.invalidate_pc (s : State) (pa : Word) : (s.invalidate pa).pc = s.pc := rfl
@[simp] theorem State.invalidate_pending (s : State) (pa : Word) : (s.invalidate pa).pending = s.pending := rfl
@[simp] theorem State.invalidate_sr (s : State) (pa : Word) : (s.invalidate pa).sr = s.sr := rfl
@[simp] theorem State.invalidate_gbr (s : State) (pa : Word) : (s.invalidate pa).gbr = s.gbr := rfl
@[simp] theorem State.invalidate_vbr (s : State) (pa : Word) : (s.invalidate pa).vbr = s.vbr := rfl
@[simp] theorem State.invalidate_ssr (s : State) (pa : Word) : (s.invalidate pa).ssr = s.ssr := rfl
@[simp] theorem State.invalidate_spc (s : State) (pa : Word) : (s.invalidate pa).spc = s.spc := rfl
@[simp] theorem State.invalidate_sgr (s : State) (pa : Word) : (s.invalidate pa).sgr = s.sgr := rfl
@[simp] theorem State.invalidate_dbr (s : State) (pa : Word) : (s.invalidate pa).dbr = s.dbr := rfl
@[simp] theorem State.invalidate_mach (s : State) (pa : Word) : (s.invalidate pa).mach = s.mach := rfl
@[simp] theorem State.invalidate_macl (s : State) (pa : Word) : (s.invalidate pa).macl = s.macl := rfl
@[simp] theorem State.invalidate_pr (s : State) (pa : Word) : (s.invalidate pa).pr = s.pr := rfl
@[simp] theorem State.invalidate_fpul (s : State) (pa : Word) : (s.invalidate pa).fpul = s.fpul := rfl
@[simp] theorem State.invalidate_fpscr (s : State) (pa : Word) : (s.invalidate pa).fpscr = s.fpscr := rfl
@[simp] theorem State.invalidate_fa (s : State) (pa : Word) : (s.invalidate pa).fa = s.fa := rfl
@[simp] theorem State.invalidate_fb (s : State) (pa : Word) : (s.invalidate pa).fb = s.fb := rfl
@[simp] theorem State.invalidate_pteh (s : State) (pa : Word) : (s.invalidate pa).pteh = s.pteh := rfl
@[simp] theorem State.invalidate_ptel (s : State) (pa : Word) : (s.invalidate pa).ptel = s.ptel := rfl
@[simp] theorem State.invalidate_ttb (s : State) (pa : Word) : (s.invalidate pa).ttb = s.ttb := rfl
@[simp] theorem State.invalidate_tea (s : State) (pa : Word) : (s.invalidate pa).tea = s.tea := rfl
@[simp] theorem State.invalidate_mmucr (s : State) (pa : Word) : (s.invalidate pa).mmucr = s.mmucr := rfl
@[simp] theorem State.invalidate_traevt (s : State) (pa : Word) : (s.invalidate pa).traevt = s.traevt := rfl
@[simp] theorem State.invalidate_expevt (s : State) (pa : Word) : (s.invalidate pa).expevt = s.expevt := rfl
@[simp] theorem State.invalidate_intevt (s : State) (pa : Word) : (s.invalidate pa).intevt = s.intevt := rfl
@[simp] theorem State.invalidate_mem (s : State) (pa : Word) : (s.invalidate pa).mem = s.mem := rfl
@[simp] theorem State.invalidate_stale (s : State) (pa : Word) : (s.invalidate pa).stale = dropStale (pa.toNat / 2 * 2) s.stale := rfl
@[simp] theorem State.invalidate_asleep (s : State) (pa : Word) : (s.invalidate pa).asleep = s.asleep := rfl
@[simp] theorem State.invalidate_events (s : State) (pa : Word) : (s.invalidate pa).events = s.events := rfl
@[simp] theorem State.invalidate_free (s : State) (pa : Word) : (s.invalidate pa).free = s.free := rfl
@[simp] theorem State.invalidate_devLog (s : State) (pa : Word) : (s.invalidate pa).devLog = s.devLog := rfl
@[simp] theorem State.invalidate_cfg (s : State) (pa : Word) : (s.invalidate pa).cfg = s.cfg := rfl

/-! ### `setMmr` -/

@[simp] theorem State.setMmr_bankA (s : State) (r : Mmr) (v : Word) : (s.setMmr r v).bankA = s.bankA := rfl
@[simp] theorem State.setMmr_bankB (s : State) (r : Mmr) (v : Word) : (s.setMmr r v).bankB = s.bankB := rfl
@[simp] theorem State.setMmr_high (s : State) (r : Mmr) (v : Word) : (s.setMmr r v).high = s.high := rfl
@[simp] theorem State.setMmr_pc (s : State) (r : Mmr) (v : Word) : (s.setMmr r v).pc = s.pc := rfl
@[simp] theorem State.setMmr_pending (s : State) (r : Mmr) (v : Word) : (s.setMmr r v).pending = s.pending := rfl
@[simp] theorem State.setMmr_sr (s : State) (r : Mmr) (v : Word) : (s.setMmr r v).sr = s.sr := rfl
@[simp] theorem State.setMmr_gbr (s : State) (r : Mmr) (v : Word) : (s.setMmr r v).gbr = s.gbr := rfl
@[simp] theorem State.setMmr_vbr (s : State) (r : Mmr) (v : Word) : (s.setMmr r v).vbr = s.vbr := rfl
@[simp] theorem State.setMmr_ssr (s : State) (r : Mmr) (v : Word) : (s.setMmr r v).ssr = s.ssr := rfl
@[simp] theorem State.setMmr_spc (s : State) (r : Mmr) (v : Word) : (s.setMmr r v).spc = s.spc := rfl
@[simp] theorem State.setMmr_sgr (s : State) (r : Mmr) (v : Word) : (s.setMmr r v).sgr = s.sgr := rfl
@[simp] theorem State.setMmr_dbr (s : State) (r : Mmr) (v : Word) : (s.setMmr r v).dbr = s.dbr := rfl
@[simp] theorem State.setMmr_mach (s : State) (r : Mmr) (v : Word) : (s.setMmr r v).mach = s.mach := rfl
@[simp] theorem State.setMmr_macl (s : State) (r : Mmr) (v : Word) : (s.setMmr r v).macl = s.macl := rfl
@[simp] theorem State.setMmr_pr (s : State) (r : Mmr) (v : Word) : (s.setMmr r v).pr = s.pr := rfl
@[simp] theorem State.setMmr_fpul (s : State) (r : Mmr) (v : Word) : (s.setMmr r v).fpul = s.fpul := rfl
@[simp] theorem State.setMmr_fpscr (s : State) (r : Mmr) (v : Word) : (s.setMmr r v).fpscr = s.fpscr := rfl
@[simp] theorem State.setMmr_fa (s : State) (r : Mmr) (v : Word) : (s.setMmr r v).fa = s.fa := rfl
@[simp] theorem State.setMmr_fb (s : State) (r : Mmr) (v : Word) : (s.setMmr r v).fb = s.fb := rfl
@[simp] theorem State.setMmr_mem (s : State) (r : Mmr) (v : Word) : (s.setMmr r v).mem = s.mem := rfl
@[simp] theorem State.setMmr_stale (s : State) (r : Mmr) (v : Word) : (s.setMmr r v).stale = s.stale := rfl
@[simp] theorem State.setMmr_asleep (s : State) (r : Mmr) (v : Word) : (s.setMmr r v).asleep = s.asleep := rfl
@[simp] theorem State.setMmr_events (s : State) (r : Mmr) (v : Word) : (s.setMmr r v).events = s.events := rfl
@[simp] theorem State.setMmr_devLog (s : State) (r : Mmr) (v : Word) : (s.setMmr r v).devLog = s.devLog := rfl
@[simp] theorem State.setMmr_cfg (s : State) (r : Mmr) (v : Word) : (s.setMmr r v).cfg = s.cfg := rfl

/-! ### `consumed` -/

@[simp] theorem State.consumed_bankA (s : State) : s.consumed.bankA = s.bankA := rfl
@[simp] theorem State.consumed_bankB (s : State) : s.consumed.bankB = s.bankB := rfl
@[simp] theorem State.consumed_high (s : State) : s.consumed.high = s.high := rfl
@[simp] theorem State.consumed_pc (s : State) : s.consumed.pc = s.pc := rfl
@[simp] theorem State.consumed_pending (s : State) : s.consumed.pending = s.pending := rfl
@[simp] theorem State.consumed_sr (s : State) : s.consumed.sr = s.sr := rfl
@[simp] theorem State.consumed_gbr (s : State) : s.consumed.gbr = s.gbr := rfl
@[simp] theorem State.consumed_vbr (s : State) : s.consumed.vbr = s.vbr := rfl
@[simp] theorem State.consumed_ssr (s : State) : s.consumed.ssr = s.ssr := rfl
@[simp] theorem State.consumed_spc (s : State) : s.consumed.spc = s.spc := rfl
@[simp] theorem State.consumed_sgr (s : State) : s.consumed.sgr = s.sgr := rfl
@[simp] theorem State.consumed_dbr (s : State) : s.consumed.dbr = s.dbr := rfl
@[simp] theorem State.consumed_mach (s : State) : s.consumed.mach = s.mach := rfl
@[simp] theorem State.consumed_macl (s : State) : s.consumed.macl = s.macl := rfl
@[simp] theorem State.consumed_pr (s : State) : s.consumed.pr = s.pr := rfl
@[simp] theorem State.consumed_fpul (s : State) : s.consumed.fpul = s.fpul := rfl
@[simp] theorem State.consumed_fpscr (s : State) : s.consumed.fpscr = s.fpscr := rfl
@[simp] theorem State.consumed_fa (s : State) : s.consumed.fa = s.fa := rfl
@[simp] theorem State.consumed_fb (s : State) : s.consumed.fb = s.fb := rfl
@[simp] theorem State.consumed_pteh (s : State) : s.consumed.pteh = s.pteh := rfl
@[simp] theorem State.consumed_ptel (s : State) : s.consumed.ptel = s.ptel := rfl
@[simp] theorem State.consumed_ttb (s : State) : s.consumed.ttb = s.ttb := rfl
@[simp] theorem State.consumed_tea (s : State) : s.consumed.tea = s.tea := rfl
@[simp] theorem State.consumed_mmucr (s : State) : s.consumed.mmucr = s.mmucr := rfl
@[simp] theorem State.consumed_traevt (s : State) : s.consumed.traevt = s.traevt := rfl
@[simp] theorem State.consumed_expevt (s : State) : s.consumed.expevt = s.expevt := rfl
@[simp] theorem State.consumed_intevt (s : State) : s.consumed.intevt = s.intevt := rfl
@[simp] theorem State.consumed_mem (s : State) : s.consumed.mem = s.mem := rfl
@[simp] theorem State.consumed_stale (s : State) : s.consumed.stale = s.stale := rfl
@[simp] theorem State.consumed_asleep (s : State) : s.consumed.asleep = s.asleep := rfl
@[simp] theorem State.consumed_events (s : State) : s.consumed.events = s.events.tail := rfl
@[simp] theorem State.consumed_free (s : State) : s.consumed.free = s.free := rfl
@[simp] theorem State.consumed_devLog (s : State) : s.consumed.devLog = s.devLog := rfl
@[simp] theorem State.consumed_cfg (s : State) : s.consumed.cfg = s.cfg := rfl

/-! ### `placeWords` -/

@[simp] theorem State.placeWords_bankA (s : State) (pa : Nat) (w0 w1 : Half) : (s.placeWords pa w0 w1).bankA = s.bankA := rfl
@[simp] theorem State.placeWords_bankB (s : State) (pa : Nat) (w0 w1 : Half) : (s.placeWords pa w0 w1).bankB = s.bankB := rfl
@[simp] theorem State.placeWords_high (s : State) (pa : Nat) (w0 w1 : Half) : (s.placeWords pa w0 w1).high = s.high := rfl
@[simp] theorem State.placeWords_pc (s : State) (pa : Nat) (w0 w1 : Half) : (s.placeWords pa w0 w1).pc = s.pc := rfl
@[simp] theorem State.placeWords_pending (s : State) (pa : Nat) (w0 w1 : Half) : (s.placeWords pa w0 w1).pending = s.pending := rfl
@[simp] theorem State.placeWords_sr (s : State) (pa : Nat) (w0 w1 : Half) : (s.placeWords pa w0 w1).sr = s.sr := rfl
@[simp] theorem State.placeWords_gbr (s : State) (pa : Nat) (w0 w1 : Half) : (s.placeWords pa w0 w1).gbr = s.gbr := rfl
@[simp] theorem State.placeWords_vbr (s : State) (pa : Nat) (w0 w1 : Half) : (s.placeWords pa w0 w1).vbr = s.vbr := rfl
@[simp] theorem State.placeWords_ssr (s : State) (pa : Nat) (w0 w1 : Half) : (s.placeWords pa w0 w1).ssr = s.ssr := rfl
@[simp] theorem State.placeWords_spc (s : State) (pa : Nat) (w0 w1 : Half) : (s.placeWords pa w0 w1).spc = s.spc := rfl
@[simp] theorem State.placeWords_sgr (s : State) (pa : Nat) (w0 w1 : Half) : (s.placeWords pa w0 w1).sgr = s.sgr := rfl
@[simp] theorem State.placeWords_dbr (s : State) (pa : Nat) (w0 w1 : Half) : (s.placeWords pa w0 w1).dbr = s.dbr := rfl
@[simp] theorem State.placeWords_mach (s : State) (pa : Nat) (w0 w1 : Half) : (s.placeWords pa w0 w1).mach = s.mach := rfl
@[simp] theorem State.placeWords_macl (s : State) (pa : Nat) (w0 w1 : Half) : (s.placeWords pa w0 w1).macl = s.macl := rfl
@[simp] theorem State.placeWords_pr (s : State) (pa : Nat) (w0 w1 : Half) : (s.placeWords pa w0 w1).pr = s.pr := rfl
@[simp] theorem State.placeWords_fpul (s : State) (pa : Nat) (w0 w1 : Half) : (s.placeWords pa w0 w1).fpul = s.fpul := rfl
@[simp] theorem State.placeWords_fpscr (s : State) (pa : Nat) (w0 w1 : Half) : (s.placeWords pa w0 w1).fpscr = s.fpscr := rfl
@[simp] theorem State.placeWords_fa (s : State) (pa : Nat) (w0 w1 : Half) : (s.placeWords pa w0 w1).fa = s.fa := rfl
@[simp] theorem State.placeWords_fb (s : State) (pa : Nat) (w0 w1 : Half) : (s.placeWords pa w0 w1).fb = s.fb := rfl
@[simp] theorem State.placeWords_pteh (s : State) (pa : Nat) (w0 w1 : Half) : (s.placeWords pa w0 w1).pteh = s.pteh := rfl
@[simp] theorem State.placeWords_ptel (s : State) (pa : Nat) (w0 w1 : Half) : (s.placeWords pa w0 w1).ptel = s.ptel := rfl
@[simp] theorem State.placeWords_ttb (s : State) (pa : Nat) (w0 w1 : Half) : (s.placeWords pa w0 w1).ttb = s.ttb := rfl
@[simp] theorem State.placeWords_tea (s : State) (pa : Nat) (w0 w1 : Half) : (s.placeWords pa w0 w1).tea = s.tea := rfl
@[simp] theorem State.placeWords_mmucr (s : State) (pa : Nat) (w0 w1 : Half) : (s.placeWords pa w0 w1).mmucr = s.mmucr := rfl
@[simp] theorem State.placeWords_traevt (s : State) (pa : Nat) (w0 w1 : Half) : (s.placeWords pa w0 w1).traevt = s.traevt := rfl
@[simp] theorem State.placeWords_expevt (s : State) (pa : Nat) (w0 w1 : Half) : (s.placeWords pa w0 w1).expevt = s.expevt := rfl
@[simp] theorem State.placeWords_intevt (s : State) (pa : Nat) (w0 w1 : Half) : (s.placeWords pa w0 w1).intevt = s.intevt := rfl
@[simp] theorem State.placeWords_asleep (s : State) (pa : Nat) (w0 w1 : Half) : (s.placeWords pa w0 w1).asleep = s.asleep := rfl
@[simp] theorem State.placeWords_events (s : State) (pa : Nat) (w0 w1 : Half) : (s.placeWords pa w0 w1).events = s.events := rfl
@[simp] theorem State.placeWords_free (s : State) (pa : Nat) (w0 w1 : Half) : (s.placeWords pa w0 w1).free = s.free := rfl
@[simp] theorem State.placeWords_devLog (s : State) (pa : Nat) (w0 w1 : Half) : (s.placeWords pa w0 w1).devLog = s.devLog := rfl
@[simp] theorem State.placeWords_cfg (s : State) (pa : Nat) (w0 w1 : Half) : (s.placeWords pa w0 w1).cfg = s.cfg := rfl

/-! ### `setMac` -/

@[simp] theorem setMac_bankA (s : State) (p : DWord) : (setMac p s).bankA = s.bankA := rfl
@[simp] theorem setMac_bankB (s : State) (p : DWord) : (setMac p s).bankB = s.bankB := rfl
@[simp] theorem setMac_high (s : State) (p : DWord) : (setMac p s).high = s.high := rfl
@[simp] theorem setMac_pc (s : State) (p : DWord) : (setMac p s).pc = s.pc := rfl
@[simp] theorem setMac_pending (s : State) (p : DWord) : (setMac p s).pending = s.pending := rfl
@[simp] theorem setMac_sr (s : State) (p : DWord) : (setMac p s).sr = s.sr := rfl
@[simp] theorem setMac_gbr (s : State) (p : DWord) : (setMac p s).gbr = s.gbr := rfl
@[simp] theorem setMac_vbr (s : State) (p : DWord) : (setMac p s).vbr = s.vbr := rfl
@[simp] theorem setMac_ssr (s : State) (p : DWord) : (setMac p s).ssr = s.ssr := rfl
@[simp] theorem setMac_spc (s : State) (p : DWord) : (setMac p s).spc = s.spc := rfl
@[simp] theorem setMac_sgr (s : State) (p : DWord) : (setMac p s).sgr = s.sgr := rfl
@[simp] theorem setMac_dbr (s : State) (p : DWord) : (setMac p s).dbr = s.dbr := rfl
@[simp] theorem setMac_mach (s : State) (p : DWord) : (setMac p s).mach = hiWord p := rfl
@[simp] theorem setMac_macl (s : State) (p : DWord) : (setMac p s).macl = loWord p := rfl
@[simp] theorem setMac_pr (s : State) (p : DWord) : (setMac p s).pr = s.pr := rfl
@[simp] theorem setMac_fpul (s : State) (p : DWord) : (setMac p s).fpul = s.fpul := rfl
@[simp] theorem setMac_fpscr (s : State) (p : DWord) : (setMac p s).fpscr = s.fpscr := rfl
@[simp] theorem setMac_fa (s : State) (p : DWord) : (setMac p s).fa = s.fa := rfl
@[simp] theorem setMac_fb (s : State) (p : DWord) : (setMac p s).fb = s.fb := rfl
@[simp] theorem setMac_pteh (s : State) (p : DWord) : (setMac p s).pteh = s.pteh := rfl
@[simp] theorem setMac_ptel (s : State) (p : DWord) : (setMac p s).ptel = s.ptel := rfl
@[simp] theorem setMac_ttb (s : State) (p : DWord) : (setMac p s).ttb = s.ttb := rfl
@[simp] theorem setMac_tea (s : State) (p : DWord) : (setMac p s).tea = s.tea := rfl
@[simp] theorem setMac_mmucr (s : State) (p : DWord) : (setMac p s).mmucr = s.mmucr := rfl
@[simp] theorem setMac_traevt (s : State) (p : DWord) : (setMac p s).traevt = s.traevt := rfl
@[simp] theorem setMac_expevt (s : State) (p : DWord) : (setMac p s).expevt = s.expevt := rfl
@[simp] theorem setMac_intevt (s : State) (p : DWord) : (setMac p s).intevt = s.intevt := rfl
@[simp] theorem setMac_mem (s : State) (p : DWord) : (setMac p s).mem = s.mem := rfl
@[simp] theorem setMac_stale (s : State) (p : DWord) : (setMac p s).stale = s.stale := rfl
@[simp] theorem setMac_asleep (s : State) (p : DWord) : (setMac p s).asleep = s.asleep := rfl
@[simp] theorem setMac_events (s : State) (p : DWord) : (setMac p s).events = s.events := rfl
@[simp] theorem setMac_free (s : State) (p : DWord) : (setMac p s).free = s.free := rfl
@[simp] theorem setMac_devLog (s : State) (p : DWord) : (setMac p s).devLog = s.devLog := rfl
@[simp] theorem setMac_cfg (s : State) (p : DWord) : (setMac p s).cfg = s.cfg := rfl

/-! ### `enterException` -/

@[simp] theorem enterException_bankA (s : State) (e : Exc) : (enterException e s).bankA = s.bankA := rfl
@[simp] theorem enterException_bankB (s : State) (e : Exc) : (enterException e s).bankB = s.bankB := rfl
@[simp] theorem enterException_high (s : State) (e : Exc) : (enterException e s).high = s.high := rfl
@[simp] theorem enterException_pc (s : State) (e : Exc) : (enterException e s).pc = s.vbr + e.vector := rfl
@[simp] theorem enterException_pending (s : State) (e : Exc) : (enterException e s).pending = none := rfl
@[simp] theorem enterException_sr (s : State) (e : Exc) : (enterException e s).sr = s.sr ||| 0x70000000 := rfl
@[simp] theorem enterException_gbr (s : State) (e : Exc) : (enterException e s).gbr = s.gbr := rfl
@[simp] theorem enterException_vbr (s : State) (e : Exc) : (enterException e s).vbr = s.vbr := rfl
@[simp] theorem enterException_ssr (s : State) (e : Exc) : (enterException e s).ssr = s.sr := rfl
@[simp] theorem enterException_spc (s : State) (e : Exc) : (enterException e s).spc = e.returnAddress s := rfl
@[simp] theorem enterException_sgr (s : State) (e : Exc) : (enterException e s).sgr = s.reg 15 := rfl
@[simp] theorem enterException_dbr (s : State) (e : Exc) : (enterException e s).dbr = s.dbr := rfl
@[simp] theorem enterException_mach (s : State) (e : Exc) : (enterException e s).mach = s.mach := rfl
@[simp] theorem enterException_macl (s : State) (e : Exc) : (enterException e s).macl = s.macl := rfl
@[simp] theorem enterException_pr (s : State) (e : Exc) : (enterException e s).pr = s.pr := rfl
@[simp] theorem enterException_fpul (s : State) (e : Exc) : (enterException e s).fpul = s.fpul := rfl
@[simp] theorem enterException_fpscr (s : State) (e : Exc) : (enterException e s).fpscr = s.fpscr := rfl
@[simp] theorem enterException_fa (s : State) (e : Exc) : (enterException e s).fa = s.fa := rfl
@[simp] theorem enterException_fb (s : State) (e : Exc) : (enterException e s).fb = s.fb := rfl
@[simp] theorem enterException_pteh (s : State) (e : Exc) : (enterException e s).pteh = s.pteh := rfl
@[simp] theorem enterException_ptel (s : State) (e : Exc) : (enterException e s).ptel = s.ptel := rfl
@[simp] theorem enterException_ttb (s : State) (e : Exc) : (enterException e s).ttb = s.ttb := rfl
@[simp] theorem enterException_tea (s : State) (e : Exc) : (enterException e s).tea = e.teaAfter s.tea := rfl
@[simp] theorem enterException_mmucr (s : State) (e : Exc) : (enterException e s).mmucr = s.mmucr := rfl
@[simp] theorem enterException_traevt (s : State) (e : Exc) : (enterException e s).traevt = e.traevtAfter s.traevt := rfl
@[simp] theorem enterException_expevt (s : State) (e : Exc) : (enterException e s).expevt = e.code := rfl
@[simp] theorem enterException_intevt (s : State) (e : Exc) : (enterException e s).intevt = s.intevt := rfl
@[simp] theorem enterException_mem (s : State) (e : Exc) : (enterException e s).mem = s.mem := rfl
@[simp] theorem enterException_stale (s : State) (e : Exc) : (enterException e s).stale = s.stale := rfl
@[simp] theorem enterException_asleep (s : State) (e : Exc) : (enterException e s).asleep = s.asleep := rfl
@[simp] theorem enterException_events (s : State) (e : Exc) : (enterException e s).events = s.events := rfl
@[simp] theorem enterException_free (s : State) (e : Exc) : (enterException e s).free = s.free := rfl
@[simp] theorem enterException_devLog (s : State) (e : Exc) : (enterException e s).devLog = s.devLog := rfl
@[simp] theorem enterException_cfg (s : State) (e : Exc) : (enterException e s).cfg = s.cfg := rfl

/-! ### `enterInterrupt` -/

@[simp] theorem enterInterrupt_bankA (s : State) (code : BitVec 12) : (enterInterrupt code s).bankA = s.bankA := by simp only [enterInterrupt]
@[simp] theorem enterInterrupt_bankB (s : State) (code : BitVec 12) : (enterInterrupt code s).bankB = s.bankB := by simp only [enterInterrupt]
@[simp] theorem enterInterrupt_high (s : State) (code : BitVec 12) : (enterInterrupt code s).high = s.high := by simp only [enterInterrupt]
@[simp] theorem enterInterrupt_pc (s : State) (code : BitVec 12) : (enterInterrupt code s).pc = s.vbr + 0x600 := by simp only [enterInterrupt]
@[simp] theorem enterInterrupt_pending (s : State) (code : BitVec 12) : (enterInterrupt code s).pending = none := by simp only [enterInterrupt]
@[simp] theorem enterInterrupt_sr (s : State) (code : BitVec 12) : (enterInterrupt code s).sr = s.sr ||| 0x70000000 := by simp only [enterInterrupt]
@[simp] theorem enterInterrupt_gbr (s : State) (code : BitVec 12) : (enterInterrupt code s).gbr = s.gbr := by simp only [enterInterrupt]
@[simp] theorem enterInterrupt_vbr (s : State) (code : BitVec 12) : (enterInterrupt code s).vbr = s.vbr := by simp only [enterInterrupt]
@[simp] theorem enterInterrupt_ssr (s : State) (code : BitVec 12) : (enterInterrupt code s).ssr = s.sr := by simp only [enterInterrupt]
@[simp] theorem enterInterrupt_spc (s : State) (code : BitVec 12) : (enterInterrupt code s).spc = s.pc := by simp only [enterInterrupt]
@[simp] theorem enterInterrupt_sgr (s : State) (code : BitVec 12) : (enterInterrupt code s).sgr = s.reg 15 := by simp only [enterInterrupt]
@[simp] theorem enterInterrupt_dbr (s : State) (code : BitVec 12) : (enterInterrupt code s).dbr = s.dbr := by simp only [enterInterrupt]
@[simp] theorem enterInterrupt_mach (s : State) (code : BitVec 12) : (enterInterrupt code s).mach = s.mach := by simp only [enterInterrupt]
@[simp] theorem enterInterrupt_macl (s : State) (code : BitVec 12) : (enterInterrupt code s).macl = s.macl := by simp only [enterInterrupt]
@[simp] theorem enterInterrupt_pr (s : State) (code : BitVec 12) : (enterInterrupt code s).pr = s.pr := by simp only [enterInterrupt]
@[simp] theorem enterInterrupt_fpul (s : State) (code : BitVec 12) : (enterInterrupt code s).fpul = s.fpul := by simp only [enterInterrupt]
@[simp] theorem enterInterrupt_fpscr (s : State) (code : BitVec 12) : (enterInterrupt code s).fpscr = s.fpscr := by simp only [enterInterrupt]
@[simp] theorem enterInterrupt_fa (s : State) (code : BitVec 12) : (enterInterrupt code s).fa = s.fa := by simp only [enterInterrupt]
@[simp] theorem enterInterrupt_fb (s : State) (code : BitVec 12) : (enterInterrupt code s).fb = s.fb := by simp only [enterInterrupt]
@[simp] theorem enterInterrupt_pteh (s : State) (code : BitVec 12) : (enterInterrupt code s).pteh = s.pteh := by simp only [enterInterrupt]
@[simp] theorem enterInterrupt_ptel (s : State) (code : BitVec 12) : (enterInterrupt code s).ptel = s.ptel := by simp only [enterInterrupt]
@[simp] theorem enterInterrupt_ttb (s : State) (code : BitVec 12) : (enterInterrupt code s).ttb = s.ttb := by simp only [enterInterrupt]
@[simp] theorem enterInterrupt_tea (s : State) (code : BitVec 12) : (enterInterrupt code s).tea = s.tea := by simp only [enterInterrupt]
@[simp] theorem enterInterrupt_mmucr (s : State) (code : BitVec 12) : (enterInterrupt code s).mmucr = s.mmucr := by simp only [enterInterrupt]
@[simp] theorem enterInterrupt_traevt (s : State) (code : BitVec 12) : (enterInterrupt code s).traevt = s.traevt := by simp only [enterInterrupt]
@[simp] theorem enterInterrupt_expevt (s : State) (code : BitVec 12) : (enterInterrupt code s).expevt = s.expevt := by simp only [enterInterrupt]
@[simp] theorem enterInterrupt_intevt (s : State) (code : BitVec 12) : (enterInterrupt code s).intevt = code.setWidth 32 := by simp only [enterInterrupt]
@[simp] theorem enterInterrupt_mem (s : State) (code : BitVec 12) : (enterInterrupt code s).mem = s.mem := by simp only [enterInterrupt]
@[simp] theorem enterInterrupt_stale (s : State) (code : BitVec 12) : (enterInterrupt code s).stale = s.stale := by simp only [enterInterrupt]
@[simp] theorem enterInterrupt_asleep (s : State) (code : BitVec 12) : (enterInterrupt code s).asleep = false := by simp only [enterInterrupt]
@[simp] theorem enterInterrupt_events (s : State) (code : BitVec 12) : (enterInterrupt code s).events = s.events := by simp only [enterInterrupt]
@[simp] theorem enterInterrupt_free (s : State) (code : BitVec 12) : (enterInterrupt code s).free = s.free := by simp only [enterInterrupt]
@[simp] theorem enterInterrupt_devLog (s : State) (code : BitVec 12) : (enterInterrupt code s).devLog = s.devLog := by simp only [enterInterrupt]
@[simp] theorem enterInterrupt_cfg (s : State) (code : BitVec 12) : (enterInterrupt code s).cfg = s.cfg := by simp only [enterInterrupt]

/-! ### `returnFromException` -/

@[simp] theorem returnFromException_bankA (s : State) : (returnFromException s).bankA = s.bankA := rfl
@[simp] theorem returnFromException_bankB (s : State) : (returnFromException s).bankB = s.bankB := rfl
@[simp] theorem returnFromException_high (s : State) : (returnFromException s).high = s.high.set 7 s.sgr := rfl
@[simp] theorem returnFromException_pc (s : State) : (returnFromException s).pc = s.pc + 2 := rfl
@[simp] theorem returnFromException_pending (s : State) : (returnFromException s).pending = some ⟨s.spc, s.pc, s.md⟩ := rfl
@[simp] theorem returnFromException_sr (s : State) : (returnFromException s).sr = s.ssr &&& srMask := rfl
@[simp] theorem returnFromException_gbr (s : State) : (returnFromException s).gbr = s.gbr := rfl
@[simp] theorem returnFromException_vbr (s : State) : (returnFromException s).vbr = s.vbr := rfl
@[simp] theorem returnFromException_ssr (s : State) : (returnFromException s).ssr = s.ssr := rfl
@[simp] theorem returnFromException_spc (s : State) : (returnFromException s).spc = s.spc := rfl
@[simp] theorem returnFromException_sgr (s : State) : (returnFromException s).sgr = s.sgr := rfl
@[simp] theorem returnFromException_dbr (s : State) : (returnFromException s).dbr = s.dbr := rfl
@[simp] theorem returnFromException_mach (s : State) : (returnFromException s).mach = s.mach := rfl
@[simp] theorem returnFromException_macl (s : State) : (returnFromException s).macl = s.macl := rfl
@[simp] theorem returnFromException_pr (s : State) : (returnFromException s).pr = s.pr := rfl
@[simp] theorem returnFromException_fpul (s : State) : (returnFromException s).fpul = s.fpul := rfl
@[simp] theorem returnFromException_fpscr (s : State) : (returnFromException s).fpscr = s.fpscr := rfl
@[simp] theorem returnFromException_fa (s : State) : (returnFromException s).fa = s.fa := rfl
@[simp] theorem returnFromException_fb (s : State) : (returnFromException s).fb = s.fb := rfl
@[simp] theorem returnFromException_pteh (s : State) : (returnFromException s).pteh = s.pteh := rfl
@[simp] theorem returnFromException_ptel (s : State) : (returnFromException s).ptel = s.ptel := rfl
@[simp] theorem returnFromException_ttb (s : State) : (returnFromException s).ttb = s.ttb := rfl
@[simp] theorem returnFromException_tea (s : State) : (returnFromException s).tea = s.tea := rfl
@[simp] theorem returnFromException_mmucr (s : State) : (returnFromException s).mmucr = s.mmucr := rfl
@[simp] theorem returnFromException_traevt (s : State) : (returnFromException s).traevt = s.traevt := rfl
@[simp] theorem returnFromException_expevt (s : State) : (returnFromException s).expevt = s.expevt := rfl
@[simp] theorem returnFromException_intevt (s : State) : (returnFromException s).intevt = s.intevt := rfl
@[simp] theorem returnFromException_mem (s : State) : (returnFromException s).mem = s.mem := rfl
@[simp] theorem returnFromException_stale (s : State) : (returnFromException s).stale = s.stale := rfl
@[simp] theorem returnFromException_asleep (s : State) : (returnFromException s).asleep = s.asleep := rfl
@[simp] theorem returnFromException_events (s : State) : (returnFromException s).events = s.events := rfl
@[simp] theorem returnFromException_free (s : State) : (returnFromException s).free = s.free := rfl
@[simp] theorem returnFromException_devLog (s : State) : (returnFromException s).devLog = s.devLog := rfl
@[simp] theorem returnFromException_cfg (s : State) : (returnFromException s).cfg = s.cfg := rfl

/-! ### `afterReset` -/

@[simp] theorem State.afterReset_mem (s : State) (c : ResetCause) : (s.afterReset c).mem = s.mem := rfl
@[simp] theorem State.afterReset_stale (s : State) (c : ResetCause) : (s.afterReset c).stale = s.stale := rfl
@[simp] theorem State.afterReset_events (s : State) (c : ResetCause) : (s.afterReset c).events = s.events := rfl
@[simp] theorem State.afterReset_free (s : State) (c : ResetCause) : (s.afterReset c).free = s.free := rfl
@[simp] theorem State.afterReset_devLog (s : State) (c : ResetCause) : (s.afterReset c).devLog = s.devLog := rfl
@[simp] theorem State.afterReset_cfg (s : State) (c : ResetCause) : (s.afterReset c).cfg = s.cfg := rfl
@[simp] theorem State.afterReset_pc (s : State) (c : ResetCause) : (s.afterReset c).pc = s.cfg.resetPc := rfl
@[simp] theorem State.afterReset_pending (s : State) (c : ResetCause) : (s.afterReset c).pending = none := rfl
@[simp] theorem State.afterReset_sr (s : State) (c : ResetCause) : (s.afterReset c).sr = 0x700000F0 := rfl
@[simp] theorem State.afterReset_mmucr (s : State) (c : ResetCause) : (s.afterReset c).mmucr = 0 := rfl
@[simp] theorem State.afterReset_vbr (s : State) (c : ResetCause) : (s.afterReset c).vbr = 0 := rfl
@[simp] theorem State.afterReset_fpscr (s : State) (c : ResetCause) : (s.afterReset c).fpscr = 0x00040001 := rfl
@[simp] theorem State.afterReset_traevt (s : State) (c : ResetCause) : (s.afterReset c).traevt = 0 := rfl
@[simp] theorem State.afterReset_intevt (s : State) (c : ResetCause) : (s.afterReset c).intevt = 0 := rfl
@[simp] theorem State.afterReset_tea (s : State) (c : ResetCause) : (s.afterReset c).tea = 0 := rfl
@[simp] theorem State.afterReset_asleep (s : State) (c : ResetCause) : (s.afterReset c).asleep = false := rfl

end Sys2Proof.Machine
end

