-- ==== Sys2Proof/Laws/Ops.lean ====
section
/-! SUPPORT. What the shared operations can do: bits, registers and cells read back, memory in canonical form, and for
each part of an access the outcomes it has. -/

namespace Sys2Proof.Machine

/-! ### Bits -/

/-- A bit that is set reads back, and no other bit changes. -/
theorem getLsbD_setBit (w : Word) (i j : Nat) (b : Bool) (hi : i < 32) :
    (setBit w i b).getLsbD j = if j = i then b else w.getLsbD j := by
  unfold setBit
  by_cases hj : j < 32
  · cases b <;> by_cases h : j = i
    all_goals simp_all
    all_goals omega
  · have : j ≠ i := by omega
    rw [if_neg this, BitVec.getLsbD_of_ge _ _ (by omega), BitVec.getLsbD_of_ge _ _ (by omega)]

@[simp] theorem State.t_setT (s : State) (b : Bool) : (s.setT b).t = b := by
  simp (disch := decide) only [State.t, State.setT_sr, getLsbD_setBit]; rfl
@[simp] theorem State.sBit_setT (s : State) (b : Bool) : (s.setT b).sBit = s.sBit := by
  simp (disch := decide) only [State.sBit, State.setT_sr, getLsbD_setBit]; rfl
@[simp] theorem State.q_setT (s : State) (b : Bool) : (s.setT b).q = s.q := by
  simp (disch := decide) only [State.q, State.setT_sr, getLsbD_setBit]; rfl
@[simp] theorem State.m_setT (s : State) (b : Bool) : (s.setT b).m = s.m := by
  simp (disch := decide) only [State.m, State.setT_sr, getLsbD_setBit]; rfl
@[simp] theorem State.fd_setT (s : State) (b : Bool) : (s.setT b).fd = s.fd := by
  simp (disch := decide) only [State.fd, State.setT_sr, getLsbD_setBit]; rfl
@[simp] theorem State.bl_setT (s : State) (b : Bool) : (s.setT b).bl = s.bl := by
  simp (disch := decide) only [State.bl, State.setT_sr, getLsbD_setBit]; rfl
@[simp] theorem State.rb_setT (s : State) (b : Bool) : (s.setT b).rb = s.rb := by
  simp (disch := decide) only [State.rb, State.setT_sr, getLsbD_setBit]; rfl
@[simp] theorem State.md_setT (s : State) (b : Bool) : (s.setT b).md = s.md := by
  simp (disch := decide) only [State.md, State.setT_sr, getLsbD_setBit]; rfl
@[simp] theorem State.t_setS (s : State) (b : Bool) : (s.setS b).t = s.t := by
  simp (disch := decide) only [State.t, State.setS_sr, getLsbD_setBit]; rfl
@[simp] theorem State.sBit_setS (s : State) (b : Bool) : (s.setS b).sBit = b := by
  simp (disch := decide) only [State.sBit, State.setS_sr, getLsbD_setBit]; rfl
@[simp] theorem State.q_setS (s : State) (b : Bool) : (s.setS b).q = s.q := by
  simp (disch := decide) only [State.q, State.setS_sr, getLsbD_setBit]; rfl
@[simp] theorem State.m_setS (s : State) (b : Bool) : (s.setS b).m = s.m := by
  simp (disch := decide) only [State.m, State.setS_sr, getLsbD_setBit]; rfl
@[simp] theorem State.fd_setS (s : State) (b : Bool) : (s.setS b).fd = s.fd := by
  simp (disch := decide) only [State.fd, State.setS_sr, getLsbD_setBit]; rfl
@[simp] theorem State.bl_setS (s : State) (b : Bool) : (s.setS b).bl = s.bl := by
  simp (disch := decide) only [State.bl, State.setS_sr, getLsbD_setBit]; rfl
@[simp] theorem State.rb_setS (s : State) (b : Bool) : (s.setS b).rb = s.rb := by
  simp (disch := decide) only [State.rb, State.setS_sr, getLsbD_setBit]; rfl
@[simp] theorem State.md_setS (s : State) (b : Bool) : (s.setS b).md = s.md := by
  simp (disch := decide) only [State.md, State.setS_sr, getLsbD_setBit]; rfl
@[simp] theorem State.t_setQMT (s : State) (q m t : Bool) : (s.setQMT q m t).t = t := by
  simp (disch := decide) only [State.t, State.setQMT_sr, getLsbD_setBit]; rfl
@[simp] theorem State.sBit_setQMT (s : State) (q m t : Bool) : (s.setQMT q m t).sBit = s.sBit := by
  simp (disch := decide) only [State.sBit, State.setQMT_sr, getLsbD_setBit]; rfl
@[simp] theorem State.q_setQMT (s : State) (q m t : Bool) : (s.setQMT q m t).q = q := by
  simp (disch := decide) only [State.q, State.setQMT_sr, getLsbD_setBit]; rfl
@[simp] theorem State.m_setQMT (s : State) (q m t : Bool) : (s.setQMT q m t).m = m := by
  simp (disch := decide) only [State.m, State.setQMT_sr, getLsbD_setBit]; rfl
@[simp] theorem State.fd_setQMT (s : State) (q m t : Bool) : (s.setQMT q m t).fd = s.fd := by
  simp (disch := decide) only [State.fd, State.setQMT_sr, getLsbD_setBit]; rfl
@[simp] theorem State.bl_setQMT (s : State) (q m t : Bool) : (s.setQMT q m t).bl = s.bl := by
  simp (disch := decide) only [State.bl, State.setQMT_sr, getLsbD_setBit]; rfl
@[simp] theorem State.rb_setQMT (s : State) (q m t : Bool) : (s.setQMT q m t).rb = s.rb := by
  simp (disch := decide) only [State.rb, State.setQMT_sr, getLsbD_setBit]; rfl
@[simp] theorem State.md_setQMT (s : State) (q m t : Bool) : (s.setQMT q m t).md = s.md := by
  simp (disch := decide) only [State.md, State.setQMT_sr, getLsbD_setBit]; rfl

/-- Trap entry sets MD, RB and BL and no other bit. -/
theorem getLsbD_trapSr (w : Word) (j : Nat) :
    (w ||| 0x70000000).getLsbD j = (w.getLsbD j || decide (j = 28 ∨ j = 29 ∨ j = 30)) := by
  by_cases hj : j < 32
  · interval_cases j <;> simp
  · have : ¬ (j = 28 ∨ j = 29 ∨ j = 30) := by omega
    simp only [this, decide_false, Bool.or_false]
    rw [BitVec.getLsbD_of_ge _ _ (by omega), BitVec.getLsbD_of_ge _ _ (by omega)]

/-! ### Registers -/

/-- The general registers are read from the two banks, the high registers and the bank that is active, nothing else. -/
theorem State.reg_congr {s t : State} (ha : t.bankA = s.bankA) (hb : t.bankB = s.bankB) (hh : t.high = s.high)
    (hk : t.bankBActive = s.bankBActive) (r : Reg) : t.reg r = s.reg r := by
  simp only [State.reg, ha, hb, hh, hk]

/-- So are the registers of the inactive bank. -/
theorem State.otherBank_congr {s t : State} (ha : t.bankA = s.bankA) (hb : t.bankB = s.bankB)
    (hk : t.bankBActive = s.bankBActive) (b : BReg) : t.otherBank b = s.otherBank b := by
  simp only [State.otherBank, ha, hb, hk]

@[simp] theorem State.bankBActive_setReg (s : State) (r : Reg) (v : Word) :
    (s.setReg r v).bankBActive = s.bankBActive := by
    simp only [State.bankBActive, State.md, State.rb, State.setReg_sr]
@[simp] theorem State.bankBActive_setOtherBank (s : State) (b : BReg) (v : Word) :
    (s.setOtherBank b v).bankBActive = s.bankBActive := by
    simp only [State.bankBActive, State.md, State.rb, State.setOtherBank_sr]
@[simp] theorem State.bankBActive_setT (s : State) (b : Bool) : (s.setT b).bankBActive = s.bankBActive := by
  simp [State.bankBActive]
@[simp] theorem State.bankBActive_setS (s : State) (b : Bool) : (s.setS b).bankBActive = s.bankBActive := by
  simp [State.bankBActive]
@[simp] theorem State.bankBActive_setQMT (s : State) (q m t : Bool) :
    (s.setQMT q m t).bankBActive = s.bankBActive := by
  simp [State.bankBActive]

/-- What is written to a general register is read from it. -/
@[simp] theorem State.reg_setReg_same (s : State) (r : Reg) (v : Word) : (s.setReg r v).reg r = v := by
  have hk : (s.setReg r v).bankBActive = s.bankBActive := by
    simp only [State.bankBActive, State.md, State.rb, State.setReg_sr]
  unfold State.reg
  rw [hk]
  simp only [State.setReg]
  by_cases h : 8 ≤ r.val
  · simp [h]
  · rcases Bool.eq_false_or_eq_true s.bankBActive with hb | hb <;> simp [hb, h, show r.val < 8 by omega]

/-- Two registers below 8, or two from 8 up, share a place in their bank only if they are one. -/
theorem bankIndex_ne {r q : Reg} (h : q ≠ r) (hs : 8 ≤ r.val ↔ 8 ≤ q.val) : bankIndex r ≠ bankIndex q := by
  have := r.isLt; have := q.isLt
  have : q.val ≠ r.val := fun e => h (Fin.ext e)
  unfold bankIndex
  omega

/-- No other general register changes. -/
theorem State.reg_setReg_ne (s : State) {r q : Reg} (v : Word) (h : q ≠ r) : (s.setReg r v).reg q = s.reg q := by
  have hk : (s.setReg r v).bankBActive = s.bankBActive := by
    simp only [State.bankBActive, State.md, State.rb, State.setReg_sr]
  unfold State.reg
  rw [hk]
  simp only [State.setReg]
  by_cases hr : 8 ≤ r.val <;> by_cases hq : 8 ≤ q.val
  · have hn := bankIndex_ne h (by simp [hr, hq])
    simp [hr, hq, Vector.getElem_set_ne, hn]
  · simp [hq, show ¬ r.val < 8 by omega]
  · simp [hr, hq]
  · have hn := bankIndex_ne h (by simp [hr, hq])
    rcases Bool.eq_false_or_eq_true s.bankBActive with hb | hb <;> simp [hb, hq, show r.val < 8 by omega, Vector.getElem_set_ne, hn]

/-- A general register is no register of the inactive bank. -/
@[simp] theorem State.otherBank_setReg (s : State) (r : Reg) (v : Word) (b : BReg) :
    (s.setReg r v).otherBank b = s.otherBank b := by
  have hk : (s.setReg r v).bankBActive = s.bankBActive := by
    simp only [State.bankBActive, State.md, State.rb, State.setReg_sr]
  unfold State.otherBank
  rw [hk]
  simp only [State.setReg]
  rcases Bool.eq_false_or_eq_true s.bankBActive with hb | hb <;> simp [hb]

/-- One register of the inactive bank written and one read, whichever bank is active. -/
theorem inactive_set (x : Bool) (a k : Vector Word 8) (b c : BReg) (v : Word) :
    (if x then (if x then a.set b.val v b.isLt else a)[c.val]'c.isLt
      else (if x then k else k.set b.val v b.isLt)[c.val]'c.isLt) =
    if c = b then v else if x then a[c.val]'c.isLt else k[c.val]'c.isLt := by
  by_cases h : c = b
  · subst h; cases x <;> simp
  · have hn : b.val ≠ c.val := fun e => h (Fin.ext e.symm)
    cases x <;> simp [h, Vector.getElem_set_ne, hn]

/-- What is written to the inactive bank is read from it, and nothing else of that bank changes. -/
theorem State.otherBank_setOtherBank (s : State) (b c : BReg) (v : Word) :
    (s.setOtherBank b v).otherBank c = if c = b then v else s.otherBank c := by
  unfold State.otherBank
  rw [State.bankBActive_setOtherBank]
  exact inactive_set _ _ _ _ _ _

/-- The active bank does not see a write of the inactive one. -/
theorem active_unset (x : Bool) (a k : Vector Word 8) (b : BReg) (v : Word) (i : Nat) (hi : i < 8) (h : Word) (p : Prop)
    [Decidable p] :
    (if p then h else if x then (if x then k else k.set b.val v b.isLt)[i]'hi
      else (if x then a.set b.val v b.isLt else a)[i]'hi) =
    if p then h else if x then k[i]'hi else a[i]'hi := by
  cases x <;> simp

/-- The registers as currently named are not of the inactive bank. -/
@[simp] theorem State.reg_setOtherBank (s : State) (b : BReg) (v : Word) (r : Reg) :
    (s.setOtherBank b v).reg r = s.reg r := by
  unfold State.reg
  rw [State.bankBActive_setOtherBank, State.setOtherBank_high]
  exact active_unset _ _ _ _ _ _ _ _ _

@[simp] theorem State.reg_setT (s : State) (b : Bool) (r : Reg) : (s.setT b).reg r = s.reg r :=
  State.reg_congr (s := s) (t := (s.setT b)) (State.setT_bankA s b) (State.setT_bankB s b) (State.setT_high s b)
    (State.bankBActive_setT s b) r
@[simp] theorem State.reg_setS (s : State) (b : Bool) (r : Reg) : (s.setS b).reg r = s.reg r :=
  State.reg_congr (s := s) (t := (s.setS b)) (State.setS_bankA s b) (State.setS_bankB s b) (State.setS_high s b)
    (State.bankBActive_setS s b) r
@[simp] theorem State.reg_setQMT (s : State) (q m t : Bool) (r : Reg) : (s.setQMT q m t).reg r = s.reg r :=
  State.reg_congr (s := s) (t := (s.setQMT q m t)) (State.setQMT_bankA s q m t) (State.setQMT_bankB s q m t) (State.setQMT_high s q m t)
    (State.bankBActive_setQMT s q m t) r
@[simp] theorem State.reg_advance (s : State) (n : Word) (r : Reg) : (s.advance n).reg r = s.reg r :=
  State.reg_congr (s := s) (t := (s.advance n)) (State.advance_bankA s n) (State.advance_bankB s n) (State.advance_high s n)
    (by simp only [State.bankBActive, State.md, State.rb, State.advance_sr]) r
@[simp] theorem State.reg_jump (s : State) (x : Word) (r : Reg) : (s.jump x).reg r = s.reg r :=
  State.reg_congr (s := s) (t := (s.jump x)) (State.jump_bankA s x) (State.jump_bankB s x) (State.jump_high s x)
    (by simp only [State.bankBActive, State.md, State.rb, State.jump_sr]) r
@[simp] theorem State.reg_delay (s : State) (n x : Word) (r : Reg) : (s.delay n x).reg r = s.reg r :=
  State.reg_congr (s := s) (t := (s.delay n x)) (State.delay_bankA s n x) (State.delay_bankB s n x) (State.delay_high s n x)
    (by simp only [State.bankBActive, State.md, State.rb, State.delay_sr]) r
@[simp] theorem State.reg_drawn (s : State) (r : Reg) : s.drawn.reg r = s.reg r :=
  State.reg_congr (s := s) (t := s.drawn) (State.drawn_bankA s) (State.drawn_bankB s) (State.drawn_high s)
    (by simp only [State.bankBActive, State.md, State.rb, State.drawn_sr]) r
@[simp] theorem State.reg_memoryWrite (s : State) (pa : Nat) (w : Width) (v : Word) (r : Reg) : (s.memoryWrite pa w v).reg r = s.reg r :=
  State.reg_congr (s := s) (t := (s.memoryWrite pa w v)) (State.memoryWrite_bankA s pa w v) (State.memoryWrite_bankB s pa w v) (State.memoryWrite_high s pa w v)
    (by simp only [State.bankBActive, State.md, State.rb, State.memoryWrite_sr]) r

/-! ### Floating-point cells -/

@[simp] theorem State.frBit_setFr (s : State) (r : FReg) (v : Word) : (s.setFr r v).frBit = s.frBit := by
  simp only [State.frBit, State.setFr_fpscr]
@[simp] theorem State.pairInB_setDr (s : State) (r q : FReg) (v : DWord) :
    (s.setDr r v).pairInB q = s.pairInB q := by
  simp only [State.pairInB, State.frBit, State.setDr_fpscr]

/-- One cell of the named bank written and one read, whichever bank that is. -/
theorem cell_set (x : Bool) (a k : Vector Word 16) (r q : FReg) (v : Word) :
    (if x then (if x then k.set r.val v r.isLt else k)[q.val]'q.isLt
      else (if x then a else a.set r.val v r.isLt)[q.val]'q.isLt) =
    if q = r then v else if x then k[q.val]'q.isLt else a[q.val]'q.isLt := by
  by_cases h : q = r
  · subst h; cases x <;> simp
  · have hn : r.val ≠ q.val := fun e => h (Fin.ext e.symm)
    cases x <;> simp [h, Vector.getElem_set_ne, hn]

/-- What is written to a cell is read from it, and no other cell of the bank changes. -/
theorem State.fr_setFr (s : State) (r q : FReg) (v : Word) : (s.setFr r v).fr q = if q = r then v else s.fr q := by
  unfold State.fr
  rw [State.frBit_setFr]
  exact cell_set _ _ _ _ _ _

/-- The two cells of a pair are different. -/
theorem pairHi_ne_pairLo (r : FReg) : pairHi r ≠ pairLo r := by unfold pairHi pairLo; omega

/-- A double is its two halves. -/
theorem hiWord_append_loWord (v : DWord) : hiWord v ++ loWord v = v := by
  apply BitVec.eq_of_getLsbD_eq
  intro i hi
  simp only [hiWord, loWord, BitVec.getLsbD_append, BitVec.getLsbD_extractLsb']
  by_cases h : i < 32
  · simp [h]
  · simp [h, show i - 32 < 32 by omega, show 32 + (i - 32) = i by omega]

/-- One pair of cells written and read back, whichever bank it lies in. -/
theorem pair_set (x : Bool) (a k : Vector Word 16) (i j : Nat) (hi : i < 16) (hj : j < 16) (hn : i ≠ j) (v : DWord) :
    (if x then (if x then (k.set i (hiWord v) hi).set j (loWord v) hj else k)[i]'hi ++
          (if x then (k.set i (hiWord v) hi).set j (loWord v) hj else k)[j]'hj
      else (if x then a else (a.set i (hiWord v) hi).set j (loWord v) hj)[i]'hi ++
          (if x then a else (a.set i (hiWord v) hi).set j (loWord v) hj)[j]'hj) = v := by
  cases x <;> simp [Vector.getElem_set_ne, hn.symm, hiWord_append_loWord]

/-- What is written to a pair is read from it. -/
@[simp] theorem State.dr_setDr_same (s : State) (r : FReg) (v : DWord) : (s.setDr r v).dr r = v := by
  unfold State.dr
  rw [State.pairInB_setDr]
  exact pair_set _ _ _ _ _ _ _ (pairHi_ne_pairLo r) _

/-! ### Memory -/

theorem memGet_memErase (m : List Host.Cell) (a b : Nat) :
    memGet (memErase m a) b = if b = a then unwrittenByte else memGet m b := by
  induction m with
  | nil => simp [memErase, memGet]
  | cons c m ih =>
    simp only [memErase]
    by_cases hc : c.1 = a
    · simp only [hc, if_true, ih, memGet]
      by_cases hb : b = a
      · simp [hb]
      · simp [hb, Ne.symm hb]
    · simp only [hc, if_false, memGet, ih]
      by_cases hb : c.1 = b
      · have : b ≠ a := hb ▸ hc
        simp [hb, this]
      · simp [hb]

/-- No entry of the list is for `a`. -/
def absent (a : Nat) (m : List Host.Cell) : Prop := ∀ c ∈ m, c.1 ≠ a

theorem absent_memErase (m : List Host.Cell) (a : Nat) : absent a (memErase m a) := by
  induction m with
  | nil => simp [memErase, absent]
  | cons c m ih =>
    simp only [memErase]
    by_cases hc : c.1 = a
    · simpa [hc] using ih
    · simp only [hc, if_false, absent, List.mem_cons, forall_eq_or_imp]
      exact ⟨hc, ih⟩

theorem memGet_memInsert (m : List Host.Cell) (a b : Nat) (v : Byte) (h : absent a m) :
    memGet (memInsert m a v) b = if b = a then v else memGet m b := by
  induction m with
  | nil => simp [memInsert, memGet, eq_comm]
  | cons c m ih =>
    have hc : c.1 ≠ a := h c (by simp)
    have hm : absent a m := fun d hd => h d (by simp [hd])
    simp only [memInsert]
    by_cases ha : a < c.1
    · simp [ha, memGet, eq_comm]
    · simp only [ha, if_false, memGet, ih hm]
      by_cases hb : c.1 = b
      · have : b ≠ a := hb ▸ hc
        simp [hb, this]
      · simp [hb]

/-- What is stored at an address is read there, and nowhere else. -/
theorem memGet_memSet (m : List Host.Cell) (a b : Nat) (v : Byte) :
    memGet (memSet m a v) b = if b = a then v else memGet m b := by
  unfold memSet
  by_cases hv : v = unwrittenByte
  · simp [hv, memGet_memErase]
  · simp only [hv, if_false, memGet_memInsert _ _ _ _ (absent_memErase m a), memGet_memErase]
    by_cases hb : b = a <;> simp [hb]

/-- A list of bytes stored upward from an address is read back there, and nothing else changes. -/
theorem memGet_memSetList (m : List Host.Cell) (pa b : Nat) (bs : List Byte) :
    memGet (memSetList m pa bs) b =
      if h : pa ≤ b ∧ b < pa + bs.length then bs[b - pa]'(by omega) else memGet m b := by
  induction bs generalizing m pa with
  | nil => simp [memSetList]
  | cons x bs ih =>
    simp only [memSetList, ih, memGet_memSet]
    by_cases hb : b = pa
    · subst hb; simp
    · by_cases h : pa + 1 ≤ b ∧ b < pa + 1 + bs.length
      · have h2 : pa ≤ b ∧ b < pa + (x :: bs).length := by simp; omega
        obtain ⟨k, rfl⟩ : ∃ k, b = pa + 1 + k := ⟨b - (pa + 1), by omega⟩
        simp only [h, h2, dite_true, and_self]
        simp [show pa + 1 + k - pa = k + 1 by omega]
      · have h2 : ¬ (pa ≤ b ∧ b < pa + (x :: bs).length) := by simp; omega
        rw [dif_neg h, dif_neg h2, if_neg hb]

theorem allAbove_mono {a b : Nat} {m : List Host.Cell} (h : a ≤ b) (hm : allAbove b m = true) :
    allAbove a m = true := by
  induction m with
  | nil => rfl
  | cons c m ih =>
    simp only [allAbove, Bool.and_eq_true, decide_eq_true_eq] at hm ⊢
    exact ⟨by omega, ih hm.2⟩

theorem allAbove_memErase {a : Nat} {m : List Host.Cell} (b : Nat) (h : allAbove a m = true) :
    allAbove a (memErase m b) = true := by
  induction m with
  | nil => rfl
  | cons c m ih =>
    simp only [allAbove, Bool.and_eq_true, decide_eq_true_eq] at h
    simp only [memErase]
    by_cases hc : c.1 = b
    · simpa [hc] using ih h.2
    · simpa [hc, allAbove, h.1] using ih h.2

theorem wf_memErase {m : List Host.Cell} (b : Nat) (h : Memory.wf m = true) : Memory.wf (memErase m b) = true := by
  induction m with
  | nil => rfl
  | cons c m ih =>
    simp only [Memory.wf, Bool.and_eq_true] at h
    simp only [memErase]
    by_cases hc : c.1 = b
    · simpa [hc] using ih h.2
    · simp only [hc, if_false, Memory.wf, Bool.and_eq_true]
      exact ⟨⟨allAbove_memErase b h.1.1, h.1.2⟩, ih h.2⟩

theorem allAbove_memInsert {x a : Nat} {v : Byte} {m : List Host.Cell} (hx : x < a) (h : allAbove x m = true) :
    allAbove x (memInsert m a v) = true := by
  induction m with
  | nil => simp [memInsert, allAbove, hx]
  | cons c m ih =>
    simp only [allAbove, Bool.and_eq_true, decide_eq_true_eq] at h
    simp only [memInsert]
    by_cases ha : a < c.1
    · simp [ha, allAbove, hx, h.1, h.2]
    · simp [ha, allAbove, h.1, ih h.2]

theorem wf_memInsert {m : List Host.Cell} {a : Nat} {v : Byte} (h : Memory.wf m = true) (hv : v ≠ unwrittenByte)
    (ha : absent a m) : Memory.wf (memInsert m a v) = true := by
  induction m with
  | nil => simp [memInsert, Memory.wf, allAbove, hv]
  | cons c m ih =>
    have hc : c.1 ≠ a := ha c (by simp)
    have hm : absent a m := fun d hd => ha d (by simp [hd])
    simp only [Memory.wf, Bool.and_eq_true] at h
    simp only [memInsert]
    by_cases hl : a < c.1
    · simp only [hl, if_true, Memory.wf, allAbove, Bool.and_eq_true, decide_eq_true_eq, bne_iff_ne]
      exact ⟨⟨⟨by simp, allAbove_mono (by omega) h.1.1⟩, hv⟩, ⟨h.1.1, by simpa using h.1.2⟩, h.2⟩
    · simp only [hl, if_false, Memory.wf, Bool.and_eq_true]
      exact ⟨⟨allAbove_memInsert (by omega) h.1.1, h.1.2⟩, ih h.2 hm⟩

/-- A store keeps memory canonical. -/
theorem wf_memSet {m : List Host.Cell} (a : Nat) (v : Byte) (h : Memory.wf m = true) :
    Memory.wf (memSet m a v) = true := by
  unfold memSet
  by_cases hv : v = unwrittenByte
  · simpa [hv] using wf_memErase a h
  · simpa [hv] using wf_memInsert (wf_memErase a h) hv (absent_memErase m a)

/-- So does a store of several bytes. -/
theorem wf_memSetList {m : List Host.Cell} (pa : Nat) (bs : List Byte) (h : Memory.wf m = true) :
    Memory.wf (memSetList m pa bs) = true := by
  induction bs generalizing m pa with
  | nil => exact h
  | cons x bs ih => exact ih (pa + 1) (wf_memSet pa x h)

/-- Memory made of a list of bytes is canonical, whatever the list. -/
theorem wf_memOfCells (cs : List Host.Cell) : Memory.wf (memOfCells cs) = true := by
  induction cs with
  | nil => rfl
  | cons c cs ih => exact wf_memSet c.1 c.2 ih

/-- It holds the bytes listed; of two for one address, the first. -/
theorem memGet_memOfCells (cs : List Host.Cell) (a : Nat) : memGet (memOfCells cs) a = memGet cs a := by
  induction cs with
  | nil => rfl
  | cons c cs ih => simp only [memOfCells, memGet_memSet, memGet, ih, eq_comm]

/-- Memory right after reset is canonical, whatever the parameters. -/
theorem wf_initial (cfg : Config) : Memory.wf (State.initial cfg).mem = true := wf_memOfCells cfg.contents

theorem wf_reset : Memory.wf State.reset.mem = true := wf_initial _

theorem wf_memoryWrite {s : State} (pa : Nat) (w : Width) (v : Word) (h : Memory.wf s.mem = true) :
    Memory.wf (s.memoryWrite pa w v).mem = true := wf_memSetList _ _ h

theorem wf_placeWords {s : State} (pa : Nat) (w0 w1 : Half) (h : Memory.wf s.mem = true) :
    Memory.wf (s.placeWords pa w0 w1).mem = true := wf_memSetList _ _ h

/-- An access stores as many bytes as its width says. -/
theorem length_bytesOf (e : Endian) (w : Width) (v : Word) : (bytesOf e w v).length = w.bytes := by
  cases w <;> cases e <;> rfl

/-- An ICBI forgets the stale bytes of one word and keeps the others. -/
theorem staleAt_dropStale (pa a : Nat) (st : List Host.Cell) :
    staleAt a (dropStale pa st) = if a = pa ∨ a = pa + 1 then [] else staleAt a st := by
  induction st with
  | nil => simp [dropStale, staleAt]
  | cons c st ih =>
    simp only [dropStale]
    by_cases hc : c.1 = pa ∨ c.1 = pa + 1
    · simp only [hc, if_true, ih, staleAt]
      by_cases ha : a = pa ∨ a = pa + 1
      · simp [ha]
      · have : c.1 ≠ a := fun e => ha (e ▸ hc)
        simp [ha, this]
    · simp only [hc, if_false, staleAt, ih]
      by_cases ha : a = pa ∨ a = pa + 1
      · have : c.1 ≠ a := fun e => hc (e ▸ ha)
        simp [ha, this]
      · simp [ha]

/-! ### Traps -/

/-- `raise` answers a next state only with SR.BL = 0, and then trap entry. -/
theorem raise_eq_next {e : Exc} {s t : State} : raise e s = .next t ↔ s.bl = false ∧ enterException e s = t := by
  unfold raise
  cases h : s.bl <;> simp

theorem raise_of_not_blocked {e : Exc} {s : State} (h : s.bl = false) : raise e s = .next (enterException e s) := by
  simp [raise, h]

/-! ### The checks every meaning shares -/

theorem notInSlot_of_none {s : State} {k : Res} (h : s.pending = none) : notInSlot s k = k := by
  simp [notInSlot, State.inSlot, h]

/-- Outside a delay slot `notInSlot` is nothing; inside, it is ILLSLOT. -/
theorem notInSlot_eq_next {s t : State} {k : Res} : notInSlot s k = .next t ↔
    (s.pending = none ∧ k = .next t) ∨ (s.pending ≠ none ∧ raise .illSlot s = .next t) := by
  unfold notInSlot State.inSlot
  cases h : s.pending <;> simp

theorem privileged_of_md {s : State} {k : Res} (h : s.md = true) : privileged s k = k := by simp [privileged, h]

/-- In supervisor mode `privileged` is nothing; in user mode it is RESINST, or ILLSLOT in a delay slot. -/
theorem privileged_eq_next {s t : State} {k : Res} : privileged s k = .next t ↔
    (s.md = true ∧ k = .next t) ∨
    (s.md = false ∧ raise (if s.pending = none then .resInst else .illSlot) s = .next t) := by
  unfold privileged State.inSlot
  cases hm : s.md <;> cases hp : s.pending <;> simp

/-- With the FPU on `fpuGated` is nothing; else it is FPUDIS, or SLOTFPUDIS in a delay slot. -/
theorem fpuGated_eq_next {s t : State} {k : Res} : fpuGated s k = .next t ↔
    ((s.fd = false ∧ s.cfg.fpuProfile ≠ .none) ∧ k = .next t) ∨
    ((s.fd = true ∨ s.cfg.fpuProfile = .none) ∧
      raise (if s.pending = none then .fpuDis else .slotFpuDis) s = .next t) := by
  unfold fpuGated State.inSlot
  cases hf : s.fd <;> cases hp : s.pending <;> by_cases hc : s.cfg.fpuProfile = .none <;> simp [hc]

theorem fpuGated_of_on {s : State} {k : Res} (hf : s.fd = false) (hp : s.cfg.fpuProfile ≠ .none) :
    fpuGated s k = k := by
  simp [fpuGated, hf, hp]

/-! ### Access to memory -/

theorem Access.bind_eq_ok {α β : Type} {x : Access α} {k : α → State → Access β} {b : β} {t : State} :
    x.bind k = .ok b t ↔ ∃ a u, x = .ok a u ∧ k a u = .ok b t := by
  cases x <;> simp [Access.bind]

theorem Access.bind_eq_exc {α β : Type} {x : Access α} {k : α → State → Access β} {e : Exc} {t : State} :
    x.bind k = .exc e t ↔ x = .exc e t ∨ ∃ a u, x = .ok a u ∧ k a u = .exc e t := by
  cases x <;> simp [Access.bind]

/-- An instruction that ends with an access completes after the access did, or is the trap the access raised. -/
theorem Access.andThen_eq_next {α : Type} {x : Access α} {k : α → State → Res} {t : State} :
    x.andThen k = .next t ↔
      (∃ a u, x = .ok a u ∧ k a u = .next t) ∨ (∃ e u, x = .exc e u ∧ raise e u = .next t) := by
  cases x <;> simp [Access.andThen]

/-- Translation only draws. -/
theorem translate_state {k : AccessKind} {md : Bool} {w : Width} {va pa : Word} {s u : State}
    (h : translate k md w va s = .ok pa u) : u = s ∨ u = s.drawn := by
  unfold translate at h
  split at h; · cases h
  split at h; · cases h
  split at h; · cases h
  split at h
  · split at h; · cases h
    split at h
    · cases h
    · cases h
    · split at h
      · cases h
      · cases h; exact .inr rfl
  · cases h; exact .inl rfl

/-- An access that raises has only drawn. -/
theorem translate_exc_state {k : AccessKind} {md : Bool} {w : Width} {va : Word} {e : Exc} {s u : State}
    (h : translate k md w va s = .exc e u) : u = s ∨ u = s.drawn := by
  unfold translate at h
  split at h; · cases h
  split at h; · cases h; exact .inl rfl
  split at h; · cases h; exact .inl rfl
  split at h
  · split at h; · cases h; exact .inr rfl
    split at h
    · cases h; exact .inr rfl
    · cases h
    · split at h
      · cases h; exact .inr rfl
      · cases h
  · cases h

/-- An access is located where translation leads, and in user mode at no memory-mapped register. -/
theorem locate_eq_ok {k : AccessKind} {md : Bool} {w : Width} {va pa : Word} {s u : State} :
    locate k md w va s = .ok pa u ↔ translate k md w va s = .ok pa u ∧ (md = true ∨ mmrAt pa.toNat = none) := by
  unfold locate
  rw [Access.bind_eq_ok]
  constructor
  · rintro ⟨a, v, h1, h2⟩
    split at h2
    · cases h2
    · next hc => cases h2; exact ⟨h1, by cases md <;> simp_all⟩
  · rintro ⟨h1, h2⟩
    exact ⟨pa, u, h1, if_neg (by cases md <;> simp_all)⟩

/-- It raises what translation raises, or, in user mode at a memory-mapped register, the address error. -/
theorem locate_eq_exc {k : AccessKind} {md : Bool} {w : Width} {va : Word} {e : Exc} {s u : State} :
    locate k md w va s = .exc e u ↔ translate k md w va s = .exc e u ∨
      (md = false ∧ e = k.addressError va ∧ ∃ pa, translate k md w va s = .ok pa u ∧ mmrAt pa.toNat ≠ none) := by
  unfold locate
  rw [Access.bind_eq_exc]
  refine or_congr Iff.rfl ⟨?_, ?_⟩
  · rintro ⟨pa, v, h1, h2⟩
    split at h2
    · next hc =>
      cases h2
      exact ⟨by simpa using (Bool.and_eq_true_iff.mp hc).1, rfl, pa, h1, by
        simpa [Option.isSome_iff_ne_none] using (Bool.and_eq_true_iff.mp hc).2⟩
    · cases h2
  · rintro ⟨hm, rfl, pa, h1, h2⟩
    exact ⟨pa, u, h1, if_pos (by simp [hm, Option.isSome_iff_ne_none, h2])⟩

/-- Locating an access only draws. -/
theorem locate_state {k : AccessKind} {md : Bool} {w : Width} {va pa : Word} {s u : State}
    (h : locate k md w va s = .ok pa u) : u = s ∨ u = s.drawn := translate_state (locate_eq_ok.mp h).1

theorem locate_exc_state {k : AccessKind} {md : Bool} {w : Width} {va : Word} {e : Exc} {s u : State}
    (h : locate k md w va s = .exc e u) : u = s ∨ u = s.drawn := by
  rcases locate_eq_exc.mp h with h1 | ⟨_, _, _, h1, _⟩
  · exact translate_exc_state h1
  · exact translate_state h1

/-- What an access reaches: memory, a device or a register, each under its condition; the state is untouched. -/
theorem placeOf_eq_ok {w : Width} {va pa : Word} {s u : State} {p : Place} (h : placeOf w va pa s = .ok p u) :
    u = s ∧
      ((∃ r, p = .register r ∧ mmrAt pa.toNat = some r ∧ w = .long) ∨
       (p = .memory pa.toNat ∧ mmrAt pa.toNat = none ∧ regionAt s.cfg.regions pa.toNat = some .memory ∧
          va.toNat < 0xE0000000) ∨
       (p = .device pa.toNat ∧ mmrAt pa.toNat = none ∧ regionAt s.cfg.regions pa.toNat = some .device)) := by
  unfold placeOf at h
  split at h
  · rename_i r hm
    split at h
    · rename_i hw; cases h; exact ⟨rfl, .inl ⟨r, rfl, hm, hw⟩⟩
    · cases h
  · rename_i hm
    split at h
    · rename_i hg; cases h; exact ⟨rfl, .inr (.inr ⟨rfl, hm, hg⟩)⟩
    · cases h
    · rename_i hg
      split at h
      · cases h
      · rename_i hr; cases h; exact ⟨rfl, .inr (.inl ⟨rfl, hm, hg, by simpa [reservedRange] using hr⟩)⟩
    · split at h <;> cases h

theorem placeOf_ne_exc {w : Width} {va pa : Word} {s u : State} {e : Exc} : placeOf w va pa s ≠ .exc e u := by
  intro h
  unfold placeOf at h
  split at h
  · split at h <;> cases h
  · split at h
    · cases h
    · cases h
    · split at h <;> cases h
    · split at h <;> cases h

/-- Finding what an access reaches only draws. -/
theorem resolve_state {k : AccessKind} {md : Bool} {w : Width} {va : Word} {p : Place} {s u : State}
    (h : resolve k md w va s = .ok p u) : u = s ∨ u = s.drawn := by
  obtain ⟨pa, v, h1, h2⟩ := Access.bind_eq_ok.mp h
  obtain ⟨rfl, -⟩ := placeOf_eq_ok h2
  exact locate_state h1

/-- No access of user mode reaches a memory-mapped register. -/
theorem resolve_user_ne_register {k : AccessKind} {w : Width} {va : Word} {r : Mmr} {s u : State} :
    resolve k false w va s ≠ .ok (.register r) u := by
  intro h
  obtain ⟨pa, v, h1, h2⟩ := Access.bind_eq_ok.mp h
  have hn : mmrAt pa.toNat = none := (locate_eq_ok.mp h1).2.resolve_left Bool.false_ne_true
  rcases (placeOf_eq_ok h2).2 with ⟨q, -, hq, -⟩ | ⟨hp, -⟩ | ⟨hp, -⟩
  · rw [hn] at hq; cases hq
  · cases hp
  · cases hp

theorem resolve_exc_state {k : AccessKind} {md : Bool} {w : Width} {va : Word} {e : Exc} {s u : State}
    (h : resolve k md w va s = .exc e u) : locate k md w va s = .exc e u ∧ (u = s ∨ u = s.drawn) := by
  rcases Access.bind_eq_exc.mp h with h1 | ⟨_, _, _, h2⟩
  · exact ⟨h1, locate_exc_state h1⟩
  · exact absurd h2 placeOf_ne_exc

/-- Reading memory or a register changes nothing; reading a device draws and is recorded. -/
theorem readPlace_eq_ok {w : Width} {p : Place} {v : Word} {s u : State} (h : readPlace w p s = .ok v u) :
    (∃ pa, p = .memory pa ∧ v = loadBytes s.cfg.endian s.mem pa w ∧ u = s) ∨
    (∃ pa, p = .device pa ∧ v = w.trunc (Config.freeDevice s.free) ∧ u = s.deviceRead pa w) ∨
    (∃ r, p = .register r ∧ v = s.mmr r ∧ u = s) := by
  cases p <;> simp [readPlace] at h <;> obtain ⟨rfl, rfl⟩ := h <;> simp

theorem readPlace_ne_exc {w : Width} {p : Place} {e : Exc} {s u : State} : readPlace w p s ≠ .exc e u := by
  cases p <;> simp [readPlace]

/-- Writing changes memory, records a device access, or writes a register; of MMUCR only bits that exist, and AT only
with an MMU. -/
theorem writePlace_eq_ok {w : Width} {v : Word} {p : Place} {s u : State} (h : writePlace w v p s = .ok () u) :
    (∃ pa, p = .memory pa ∧ u = s.memoryWrite pa w v) ∨ (∃ pa, p = .device pa ∧ u = s.deviceWrite pa w v) ∨
    (∃ r, p = .register r ∧ u = s.setMmr r v ∧
      (r = .mmucr → v &&& ~~~mmucrMask = 0 ∧ (v.getLsbD 0 = true → s.cfg.hasMmu = true))) := by
  cases p with
  | memory pa => simp [writePlace] at h; exact .inl ⟨pa, rfl, h.symm⟩
  | device pa => simp [writePlace] at h; exact .inr (.inl ⟨pa, rfl, h.symm⟩)
  | register r =>
    simp only [writePlace] at h
    split at h; · cases h
    rename_i h1
    split at h; · cases h
    rename_i h2
    cases h
    refine .inr (.inr ⟨r, rfl, rfl, fun hr => ⟨by simpa [hr] using h1, fun h0 => ?_⟩⟩)
    simpa [hr, h0] using h2

theorem writePlace_ne_exc {w : Width} {v : Word} {p : Place} {e : Exc} {s u : State} :
    writePlace w v p s ≠ .exc e u := by
  intro h
  cases p with
  | memory pa => cases h
  | device pa => cases h
  | register r =>
    simp only [writePlace] at h
    split at h; · cases h
    split at h <;> cases h

/-- A load resolves its address and reads what it reaches. -/
theorem memRead_eq_ok {w : Width} {va v : Word} {s t : State} :
    memRead w va s = .ok v t ↔ ∃ p u, resolve .read s.md w va s = .ok p u ∧ readPlace w p u = .ok v t :=
  Access.bind_eq_ok

/-- A load that raises has only drawn. -/
theorem memRead_eq_exc {w : Width} {va : Word} {e : Exc} {s t : State} :
    memRead w va s = .exc e t ↔ resolve .read s.md w va s = .exc e t := by
  unfold memRead
  rw [Access.bind_eq_exc]
  exact ⟨fun h => h.elim id fun ⟨_, _, _, h2⟩ => absurd h2 readPlace_ne_exc, .inl⟩

/-- A load from memory gives the bytes there. -/
theorem memRead_memory {w : Width} {va : Word} {pa : Nat} {s u : State}
    (h : resolve .read s.md w va s = .ok (.memory pa) u) :
    memRead w va s = .ok (loadBytes s.cfg.endian s.mem pa w) u := by
  rcases resolve_state h with rfl | rfl <;> simp [memRead, h, Access.bind, readPlace]

/-- A load from a memory-mapped register gives what it holds. -/
theorem memRead_register {w : Width} {va : Word} {r : Mmr} {s u : State}
    (h : resolve .read s.md w va s = .ok (.register r) u) : memRead w va s = .ok (s.mmr r) u := by
  have hm : u.mmr r = s.mmr r := by rcases resolve_state h with rfl | rfl <;> rfl
  simp [memRead, h, Access.bind, readPlace, hm]

/-- A load from a device gives a free value, and is recorded. -/
theorem memRead_device {w : Width} {va : Word} {pa : Nat} {s u : State}
    (h : resolve .read s.md w va s = .ok (.device pa) u) :
    memRead w va s = .ok (w.trunc (Config.freeDevice u.free)) (u.deviceRead pa w) := by
  simp [memRead, h, Access.bind, readPlace]

/-- A store resolves its address and writes what it reaches. -/
theorem memWrite_eq_ok {w : Width} {va v : Word} {s t : State} :
    memWrite w va v s = .ok () t ↔ ∃ p u, resolve .write s.md w va s = .ok p u ∧ writePlace w v p u = .ok () t :=
  Access.bind_eq_ok

/-- A store that raises has only drawn. -/
theorem memWrite_eq_exc {w : Width} {va v : Word} {e : Exc} {s t : State} :
    memWrite w va v s = .exc e t ↔ resolve .write s.md w va s = .exc e t := by
  unfold memWrite
  rw [Access.bind_eq_exc]
  exact ⟨fun h => h.elim id fun ⟨_, _, _, h2⟩ => absurd h2 writePlace_ne_exc, .inl⟩

/-- A store to memory stores there. -/
theorem memWrite_memory {w : Width} {va v : Word} {pa : Nat} {s u : State}
    (h : resolve .write s.md w va s = .ok (.memory pa) u) : memWrite w va v s = .ok () (u.memoryWrite pa w v) := by
  simp [memWrite, h, Access.bind, writePlace]

/-- A store to a memory-mapped register that takes the value writes it. -/
theorem memWrite_register {w : Width} {va v : Word} {r : Mmr} {s u : State}
    (h : resolve .write s.md w va s = .ok (.register r) u)
    (hv : r = .mmucr → v &&& ~~~mmucrMask = 0 ∧ (v.getLsbD 0 = true → s.cfg.hasMmu = true)) :
    memWrite w va v s = .ok () (u.setMmr r v) := by
  have hc : u.cfg = s.cfg := by rcases resolve_state h with rfl | rfl <;> rfl
  have h1 : ¬ (r = .mmucr ∧ v &&& ~~~mmucrMask ≠ 0) := fun hr => hr.2 (hv hr.1).1
  have h2 : ¬ (r = .mmucr ∧ v.getLsbD 0 = true ∧ u.cfg.hasMmu = false) := fun hr => by
    simpa [hc, (hv hr.1).2 hr.2.1] using hr.2.2
  simp only [memWrite, h, Access.bind, writePlace, h1, h2, if_false]

/-- A store to a device is recorded. -/
theorem memWrite_device {w : Width} {va v : Word} {pa : Nat} {s u : State}
    (h : resolve .write s.md w va s = .ok (.device pa) u) : memWrite w va v s = .ok () (u.deviceWrite pa w v) := by
  simp [memWrite, h, Access.bind, writePlace]

/-- A fetch draws, and may read a device; it changes nothing else. -/
theorem fetch_state {md : Bool} {va : Word} {h0 : Half} {s t : State} (h : fetch md va s = .ok h0 t) :
    ∃ n l, t = { s with free := n, devLog := l ++ s.devLog } ∧ s.free ≤ n := by
  obtain ⟨p, u, h1, h2⟩ := Access.bind_eq_ok.mp h
  cases p with
  | memory pa =>
    simp at h2
    rcases resolve_state h1 with rfl | rfl <;> obtain ⟨-, rfl⟩ := h2
    · exact ⟨u.free + 2, [], rfl, by omega⟩
    · exact ⟨s.free + 3, [], rfl, by omega⟩
  | device pa =>
    simp at h2
    rcases resolve_state h1 with rfl | rfl <;> obtain ⟨-, rfl⟩ := h2
    · exact ⟨u.free + 1, [_], rfl, by omega⟩
    · exact ⟨s.free + 2, [_], rfl, by omega⟩
  | register r =>
    simp at h2
    rcases resolve_state h1 with rfl | rfl <;> obtain ⟨-, rfl⟩ := h2
    · exact ⟨u.free, [], rfl, by omega⟩
    · exact ⟨s.free + 1, [], rfl, by omega⟩

/-- A fetch that raises has only drawn. -/
theorem fetch_eq_exc {md : Bool} {va : Word} {e : Exc} {s t : State} :
    fetch md va s = .exc e t ↔ resolve .read md .half va s = .exc e t := by
  unfold fetch
  rw [Access.bind_eq_exc]
  refine ⟨fun h => h.elim id fun ⟨p, _, _, h2⟩ => ?_, .inl⟩
  cases p <;> simp at h2

/-! ### Sleep -/

/-- What wakes a sleeping core: a reset, or a request it accepts. -/
theorem wakes_eq_true {s : State} {ev : Event} :
    wakes s ev = true ↔ (∃ c, ev = .reset c) ∨ acceptedCode s ev ≠ none := by
  cases ev <;> simp [wakes, Option.isSome_iff_ne_none]

/-- A sleeping core goes on asleep only while something that wakes it is to come. -/
theorem runOrSleep_eq_next {s t : State} : runOrSleep s = .next t ↔
    (s.asleep = true ∧ s.events.any (wakes s) = true ∧ t = s) ∨ (s.asleep = false ∧ runInstruction s = .next t) := by
  unfold runOrSleep
  cases s.asleep <;> cases s.events.any (wakes s) <;> simp [eq_comm]

end Sys2Proof.Machine
end

