-- ==== Sys2Proof/Laws/PerInstr.lean ====
section
/-! SUPPORT. A statement made for every instruction, one lemma for each. -/

namespace Sys2Proof.Laws

/-- The least significant nibble of a word made of four (00_scope.md R7). -/
theorem nibOf_word16_0 (a b c d : Nib) : nibOf (word16 a b c d) 0 = d := by
  refine BitVec.eq_of_getLsbD_eq fun i hi => ?_
  rcases i with _ | _ | _ | _ | i
  all_goals first | omega | simp only [nibOf, word16, BitVec.getLsbD_extractLsb', BitVec.getLsbD_append]; rfl

/-- The second nibble of a word made of four (00_scope.md R7). -/
theorem nibOf_word16_1 (a b c d : Nib) : nibOf (word16 a b c d) 1 = c := by
  refine BitVec.eq_of_getLsbD_eq fun i hi => ?_
  rcases i with _ | _ | _ | _ | i
  all_goals first | omega | simp only [nibOf, word16, BitVec.getLsbD_extractLsb', BitVec.getLsbD_append]; rfl

/-- The third nibble of a word made of four (00_scope.md R7). -/
theorem nibOf_word16_2 (a b c d : Nib) : nibOf (word16 a b c d) 2 = b := by
  refine BitVec.eq_of_getLsbD_eq fun i hi => ?_
  rcases i with _ | _ | _ | _ | i
  all_goals first | omega | simp only [nibOf, word16, BitVec.getLsbD_extractLsb', BitVec.getLsbD_append]; rfl

/-- The most significant nibble of a word made of four (00_scope.md R7). -/
theorem nibOf_word16_3 (a b c d : Nib) : nibOf (word16 a b c d) 3 = a := by
  refine BitVec.eq_of_getLsbD_eq fun i hi => ?_
  rcases i with _ | _ | _ | _ | i
  all_goals first | omega | simp only [nibOf, word16, BitVec.getLsbD_extractLsb', BitVec.getLsbD_append]; rfl

/-- The high byte of a word made of four nibbles decides whether a second word follows (30_encoding.md R121). -/
theorem isWide_word16 (a b c d : Nib) : isWide (word16 a b c d) = (a == 8 && (b == 0xA || b == 0xE)) := by
  rw [isWide, nibOf_word16_3, nibOf_word16_2]

/-- The first word of the encoding says how long the instruction is, and the encoding has that many words
(30_encoding.md R121). -/
def FirstWordTellsLength.Statement (i : Instr) : Prop :=
  isWide (encode i).1 = i.wide ∧ (encode i).2.isSome = i.wide

theorem FirstWordTellsLength.stcSr (rn : Reg) : FirstWordTellsLength.Statement (.stcSr rn) :=
  ⟨(isWide_word16 _ _ _ _).trans rfl, rfl⟩
theorem FirstWordTellsLength.stcGbr (rn : Reg) : FirstWordTellsLength.Statement (.stcGbr rn) :=
  ⟨(isWide_word16 _ _ _ _).trans rfl, rfl⟩
theorem FirstWordTellsLength.stcVbr (rn : Reg) : FirstWordTellsLength.Statement (.stcVbr rn) :=
  ⟨(isWide_word16 _ _ _ _).trans rfl, rfl⟩
theorem FirstWordTellsLength.stcSsr (rn : Reg) : FirstWordTellsLength.Statement (.stcSsr rn) :=
  ⟨(isWide_word16 _ _ _ _).trans rfl, rfl⟩
theorem FirstWordTellsLength.stcSpc (rn : Reg) : FirstWordTellsLength.Statement (.stcSpc rn) :=
  ⟨(isWide_word16 _ _ _ _).trans rfl, rfl⟩
theorem FirstWordTellsLength.stcBank (b : BReg) (rn : Reg) : FirstWordTellsLength.Statement (.stcBank b rn) :=
  ⟨(isWide_word16 _ _ _ _).trans rfl, rfl⟩
theorem FirstWordTellsLength.bsrf (rm : Reg) : FirstWordTellsLength.Statement (.bsrf rm) :=
  ⟨(isWide_word16 _ _ _ _).trans rfl, rfl⟩
theorem FirstWordTellsLength.braf (rm : Reg) : FirstWordTellsLength.Statement (.braf rm) :=
  ⟨(isWide_word16 _ _ _ _).trans rfl, rfl⟩
theorem FirstWordTellsLength.pref (rn : Reg) : FirstWordTellsLength.Statement (.pref rn) :=
  ⟨(isWide_word16 _ _ _ _).trans rfl, rfl⟩
theorem FirstWordTellsLength.movcaL (rn : Reg) : FirstWordTellsLength.Statement (.movcaL rn) :=
  ⟨(isWide_word16 _ _ _ _).trans rfl, rfl⟩
theorem FirstWordTellsLength.icbi (rn : Reg) : FirstWordTellsLength.Statement (.icbi rn) :=
  ⟨(isWide_word16 _ _ _ _).trans rfl, rfl⟩
theorem FirstWordTellsLength.movBStoreR0Idx (rm : Reg) (rn : Reg) : FirstWordTellsLength.Statement (.movBStoreR0Idx rm rn) :=
  ⟨(isWide_word16 _ _ _ _).trans rfl, rfl⟩
theorem FirstWordTellsLength.movWStoreR0Idx (rm : Reg) (rn : Reg) : FirstWordTellsLength.Statement (.movWStoreR0Idx rm rn) :=
  ⟨(isWide_word16 _ _ _ _).trans rfl, rfl⟩
theorem FirstWordTellsLength.movLStoreR0Idx (rm : Reg) (rn : Reg) : FirstWordTellsLength.Statement (.movLStoreR0Idx rm rn) :=
  ⟨(isWide_word16 _ _ _ _).trans rfl, rfl⟩
theorem FirstWordTellsLength.mulL (rm : Reg) (rn : Reg) : FirstWordTellsLength.Statement (.mulL rm rn) :=
  ⟨(isWide_word16 _ _ _ _).trans rfl, rfl⟩
theorem FirstWordTellsLength.clrt : FirstWordTellsLength.Statement .clrt :=
  ⟨(isWide_word16 _ _ _ _).trans rfl, rfl⟩
theorem FirstWordTellsLength.sett : FirstWordTellsLength.Statement .sett :=
  ⟨(isWide_word16 _ _ _ _).trans rfl, rfl⟩
theorem FirstWordTellsLength.clrmac : FirstWordTellsLength.Statement .clrmac :=
  ⟨(isWide_word16 _ _ _ _).trans rfl, rfl⟩
theorem FirstWordTellsLength.ldtlb : FirstWordTellsLength.Statement .ldtlb :=
  ⟨(isWide_word16 _ _ _ _).trans rfl, rfl⟩
theorem FirstWordTellsLength.clrs : FirstWordTellsLength.Statement .clrs :=
  ⟨(isWide_word16 _ _ _ _).trans rfl, rfl⟩
theorem FirstWordTellsLength.sets : FirstWordTellsLength.Statement .sets :=
  ⟨(isWide_word16 _ _ _ _).trans rfl, rfl⟩
theorem FirstWordTellsLength.nott : FirstWordTellsLength.Statement .nott :=
  ⟨(isWide_word16 _ _ _ _).trans rfl, rfl⟩
theorem FirstWordTellsLength.nop (imm : BitVec 4) : FirstWordTellsLength.Statement (.nop imm) :=
  ⟨(isWide_word16 _ _ _ _).trans rfl, rfl⟩
theorem FirstWordTellsLength.div0u : FirstWordTellsLength.Statement .div0u :=
  ⟨(isWide_word16 _ _ _ _).trans rfl, rfl⟩
theorem FirstWordTellsLength.movt (rn : Reg) : FirstWordTellsLength.Statement (.movt rn) :=
  ⟨(isWide_word16 _ _ _ _).trans rfl, rfl⟩
theorem FirstWordTellsLength.movrt (rn : Reg) : FirstWordTellsLength.Statement (.movrt rn) :=
  ⟨(isWide_word16 _ _ _ _).trans rfl, rfl⟩
theorem FirstWordTellsLength.stsMach (rn : Reg) : FirstWordTellsLength.Statement (.stsMach rn) :=
  ⟨(isWide_word16 _ _ _ _).trans rfl, rfl⟩
theorem FirstWordTellsLength.stsMacl (rn : Reg) : FirstWordTellsLength.Statement (.stsMacl rn) :=
  ⟨(isWide_word16 _ _ _ _).trans rfl, rfl⟩
theorem FirstWordTellsLength.stsPr (rn : Reg) : FirstWordTellsLength.Statement (.stsPr rn) :=
  ⟨(isWide_word16 _ _ _ _).trans rfl, rfl⟩
theorem FirstWordTellsLength.stcSgr (rn : Reg) : FirstWordTellsLength.Statement (.stcSgr rn) :=
  ⟨(isWide_word16 _ _ _ _).trans rfl, rfl⟩
theorem FirstWordTellsLength.stsFpul (rn : Reg) : FirstWordTellsLength.Statement (.stsFpul rn) :=
  ⟨(isWide_word16 _ _ _ _).trans rfl, rfl⟩
theorem FirstWordTellsLength.stsFpscr (rn : Reg) : FirstWordTellsLength.Statement (.stsFpscr rn) :=
  ⟨(isWide_word16 _ _ _ _).trans rfl, rfl⟩
theorem FirstWordTellsLength.stcDbr (rn : Reg) : FirstWordTellsLength.Statement (.stcDbr rn) :=
  ⟨(isWide_word16 _ _ _ _).trans rfl, rfl⟩
theorem FirstWordTellsLength.rts : FirstWordTellsLength.Statement .rts :=
  ⟨(isWide_word16 _ _ _ _).trans rfl, rfl⟩
theorem FirstWordTellsLength.sleep : FirstWordTellsLength.Statement .sleep :=
  ⟨(isWide_word16 _ _ _ _).trans rfl, rfl⟩
theorem FirstWordTellsLength.rte : FirstWordTellsLength.Statement .rte :=
  ⟨(isWide_word16 _ _ _ _).trans rfl, rfl⟩
theorem FirstWordTellsLength.brk : FirstWordTellsLength.Statement .brk :=
  ⟨(isWide_word16 _ _ _ _).trans rfl, rfl⟩
theorem FirstWordTellsLength.rtsN : FirstWordTellsLength.Statement .rtsN :=
  ⟨(isWide_word16 _ _ _ _).trans rfl, rfl⟩
theorem FirstWordTellsLength.movBLoadR0Idx (rm : Reg) (rn : Reg) : FirstWordTellsLength.Statement (.movBLoadR0Idx rm rn) :=
  ⟨(isWide_word16 _ _ _ _).trans rfl, rfl⟩
theorem FirstWordTellsLength.movWLoadR0Idx (rm : Reg) (rn : Reg) : FirstWordTellsLength.Statement (.movWLoadR0Idx rm rn) :=
  ⟨(isWide_word16 _ _ _ _).trans rfl, rfl⟩
theorem FirstWordTellsLength.movLLoadR0Idx (rm : Reg) (rn : Reg) : FirstWordTellsLength.Statement (.movLLoadR0Idx rm rn) :=
  ⟨(isWide_word16 _ _ _ _).trans rfl, rfl⟩
theorem FirstWordTellsLength.movLStoreDisp4 (rm : Reg) (rn : Reg) (disp : BitVec 4) : FirstWordTellsLength.Statement (.movLStoreDisp4 rm rn disp) :=
  ⟨(isWide_word16 _ _ _ _).trans rfl, rfl⟩
theorem FirstWordTellsLength.movBStoreInd (rm : Reg) (rn : Reg) : FirstWordTellsLength.Statement (.movBStoreInd rm rn) :=
  ⟨(isWide_word16 _ _ _ _).trans rfl, rfl⟩
theorem FirstWordTellsLength.movWStoreInd (rm : Reg) (rn : Reg) : FirstWordTellsLength.Statement (.movWStoreInd rm rn) :=
  ⟨(isWide_word16 _ _ _ _).trans rfl, rfl⟩
theorem FirstWordTellsLength.movLStoreInd (rm : Reg) (rn : Reg) : FirstWordTellsLength.Statement (.movLStoreInd rm rn) :=
  ⟨(isWide_word16 _ _ _ _).trans rfl, rfl⟩
theorem FirstWordTellsLength.casL (rm : Reg) (rn : Reg) : FirstWordTellsLength.Statement (.casL rm rn) :=
  ⟨(isWide_word16 _ _ _ _).trans rfl, rfl⟩
theorem FirstWordTellsLength.movBStorePreDec (rm : Reg) (rn : Reg) : FirstWordTellsLength.Statement (.movBStorePreDec rm rn) :=
  ⟨(isWide_word16 _ _ _ _).trans rfl, rfl⟩
theorem FirstWordTellsLength.movWStorePreDec (rm : Reg) (rn : Reg) : FirstWordTellsLength.Statement (.movWStorePreDec rm rn) :=
  ⟨(isWide_word16 _ _ _ _).trans rfl, rfl⟩
theorem FirstWordTellsLength.movLStorePreDec (rm : Reg) (rn : Reg) : FirstWordTellsLength.Statement (.movLStorePreDec rm rn) :=
  ⟨(isWide_word16 _ _ _ _).trans rfl, rfl⟩
theorem FirstWordTellsLength.div0s (rm : Reg) (rn : Reg) : FirstWordTellsLength.Statement (.div0s rm rn) :=
  ⟨(isWide_word16 _ _ _ _).trans rfl, rfl⟩
theorem FirstWordTellsLength.tst (rm : Reg) (rn : Reg) : FirstWordTellsLength.Statement (.tst rm rn) :=
  ⟨(isWide_word16 _ _ _ _).trans rfl, rfl⟩
theorem FirstWordTellsLength.and (rm : Reg) (rn : Reg) : FirstWordTellsLength.Statement (.and rm rn) :=
  ⟨(isWide_word16 _ _ _ _).trans rfl, rfl⟩
theorem FirstWordTellsLength.xor (rm : Reg) (rn : Reg) : FirstWordTellsLength.Statement (.xor rm rn) :=
  ⟨(isWide_word16 _ _ _ _).trans rfl, rfl⟩
theorem FirstWordTellsLength.or (rm : Reg) (rn : Reg) : FirstWordTellsLength.Statement (.or rm rn) :=
  ⟨(isWide_word16 _ _ _ _).trans rfl, rfl⟩
theorem FirstWordTellsLength.cmpStr (rm : Reg) (rn : Reg) : FirstWordTellsLength.Statement (.cmpStr rm rn) :=
  ⟨(isWide_word16 _ _ _ _).trans rfl, rfl⟩
theorem FirstWordTellsLength.xtrct (rm : Reg) (rn : Reg) : FirstWordTellsLength.Statement (.xtrct rm rn) :=
  ⟨(isWide_word16 _ _ _ _).trans rfl, rfl⟩
theorem FirstWordTellsLength.muluW (rm : Reg) (rn : Reg) : FirstWordTellsLength.Statement (.muluW rm rn) :=
  ⟨(isWide_word16 _ _ _ _).trans rfl, rfl⟩
theorem FirstWordTellsLength.mulsW (rm : Reg) (rn : Reg) : FirstWordTellsLength.Statement (.mulsW rm rn) :=
  ⟨(isWide_word16 _ _ _ _).trans rfl, rfl⟩
theorem FirstWordTellsLength.cmpEq (rm : Reg) (rn : Reg) : FirstWordTellsLength.Statement (.cmpEq rm rn) :=
  ⟨(isWide_word16 _ _ _ _).trans rfl, rfl⟩
theorem FirstWordTellsLength.cmpHs (rm : Reg) (rn : Reg) : FirstWordTellsLength.Statement (.cmpHs rm rn) :=
  ⟨(isWide_word16 _ _ _ _).trans rfl, rfl⟩
theorem FirstWordTellsLength.cmpGe (rm : Reg) (rn : Reg) : FirstWordTellsLength.Statement (.cmpGe rm rn) :=
  ⟨(isWide_word16 _ _ _ _).trans rfl, rfl⟩
theorem FirstWordTellsLength.div1 (rm : Reg) (rn : Reg) : FirstWordTellsLength.Statement (.div1 rm rn) :=
  ⟨(isWide_word16 _ _ _ _).trans rfl, rfl⟩
theorem FirstWordTellsLength.dmuluL (rm : Reg) (rn : Reg) : FirstWordTellsLength.Statement (.dmuluL rm rn) :=
  ⟨(isWide_word16 _ _ _ _).trans rfl, rfl⟩
theorem FirstWordTellsLength.cmpHi (rm : Reg) (rn : Reg) : FirstWordTellsLength.Statement (.cmpHi rm rn) :=
  ⟨(isWide_word16 _ _ _ _).trans rfl, rfl⟩
theorem FirstWordTellsLength.cmpGt (rm : Reg) (rn : Reg) : FirstWordTellsLength.Statement (.cmpGt rm rn) :=
  ⟨(isWide_word16 _ _ _ _).trans rfl, rfl⟩
theorem FirstWordTellsLength.sub (rm : Reg) (rn : Reg) : FirstWordTellsLength.Statement (.sub rm rn) :=
  ⟨(isWide_word16 _ _ _ _).trans rfl, rfl⟩
theorem FirstWordTellsLength.subc (rm : Reg) (rn : Reg) : FirstWordTellsLength.Statement (.subc rm rn) :=
  ⟨(isWide_word16 _ _ _ _).trans rfl, rfl⟩
theorem FirstWordTellsLength.subv (rm : Reg) (rn : Reg) : FirstWordTellsLength.Statement (.subv rm rn) :=
  ⟨(isWide_word16 _ _ _ _).trans rfl, rfl⟩
theorem FirstWordTellsLength.add (rm : Reg) (rn : Reg) : FirstWordTellsLength.Statement (.add rm rn) :=
  ⟨(isWide_word16 _ _ _ _).trans rfl, rfl⟩
theorem FirstWordTellsLength.dmulsL (rm : Reg) (rn : Reg) : FirstWordTellsLength.Statement (.dmulsL rm rn) :=
  ⟨(isWide_word16 _ _ _ _).trans rfl, rfl⟩
theorem FirstWordTellsLength.addc (rm : Reg) (rn : Reg) : FirstWordTellsLength.Statement (.addc rm rn) :=
  ⟨(isWide_word16 _ _ _ _).trans rfl, rfl⟩
theorem FirstWordTellsLength.addv (rm : Reg) (rn : Reg) : FirstWordTellsLength.Statement (.addv rm rn) :=
  ⟨(isWide_word16 _ _ _ _).trans rfl, rfl⟩
theorem FirstWordTellsLength.shll (rn : Reg) : FirstWordTellsLength.Statement (.shll rn) :=
  ⟨(isWide_word16 _ _ _ _).trans rfl, rfl⟩
theorem FirstWordTellsLength.dt (rn : Reg) : FirstWordTellsLength.Statement (.dt rn) :=
  ⟨(isWide_word16 _ _ _ _).trans rfl, rfl⟩
theorem FirstWordTellsLength.shal (rn : Reg) : FirstWordTellsLength.Statement (.shal rn) :=
  ⟨(isWide_word16 _ _ _ _).trans rfl, rfl⟩
theorem FirstWordTellsLength.shlr (rn : Reg) : FirstWordTellsLength.Statement (.shlr rn) :=
  ⟨(isWide_word16 _ _ _ _).trans rfl, rfl⟩
theorem FirstWordTellsLength.cmpPz (rn : Reg) : FirstWordTellsLength.Statement (.cmpPz rn) :=
  ⟨(isWide_word16 _ _ _ _).trans rfl, rfl⟩
theorem FirstWordTellsLength.shar (rn : Reg) : FirstWordTellsLength.Statement (.shar rn) :=
  ⟨(isWide_word16 _ _ _ _).trans rfl, rfl⟩
theorem FirstWordTellsLength.sthf16 (rn : Reg) : FirstWordTellsLength.Statement (.sthf16 rn) :=
  ⟨(isWide_word16 _ _ _ _).trans rfl, rfl⟩
theorem FirstWordTellsLength.ldhf16 (rm : Reg) : FirstWordTellsLength.Statement (.ldhf16 rm) :=
  ⟨(isWide_word16 _ _ _ _).trans rfl, rfl⟩
theorem FirstWordTellsLength.fmovStorePcR0 (rm : FReg) : FirstWordTellsLength.Statement (.fmovStorePcR0 rm) :=
  ⟨(isWide_word16 _ _ _ _).trans rfl, rfl⟩
theorem FirstWordTellsLength.movBStorePcR0 (rm : Reg) : FirstWordTellsLength.Statement (.movBStorePcR0 rm) :=
  ⟨(isWide_word16 _ _ _ _).trans rfl, rfl⟩
theorem FirstWordTellsLength.movWStorePcR0 (rm : Reg) : FirstWordTellsLength.Statement (.movWStorePcR0 rm) :=
  ⟨(isWide_word16 _ _ _ _).trans rfl, rfl⟩
theorem FirstWordTellsLength.movLStorePcR0 (rm : Reg) : FirstWordTellsLength.Statement (.movLStorePcR0 rm) :=
  ⟨(isWide_word16 _ _ _ _).trans rfl, rfl⟩
theorem FirstWordTellsLength.stslMach (rn : Reg) : FirstWordTellsLength.Statement (.stslMach rn) :=
  ⟨(isWide_word16 _ _ _ _).trans rfl, rfl⟩
theorem FirstWordTellsLength.stslMacl (rn : Reg) : FirstWordTellsLength.Statement (.stslMacl rn) :=
  ⟨(isWide_word16 _ _ _ _).trans rfl, rfl⟩
theorem FirstWordTellsLength.stslPr (rn : Reg) : FirstWordTellsLength.Statement (.stslPr rn) :=
  ⟨(isWide_word16 _ _ _ _).trans rfl, rfl⟩
theorem FirstWordTellsLength.stclSgr (rn : Reg) : FirstWordTellsLength.Statement (.stclSgr rn) :=
  ⟨(isWide_word16 _ _ _ _).trans rfl, rfl⟩
theorem FirstWordTellsLength.stslFpul (rn : Reg) : FirstWordTellsLength.Statement (.stslFpul rn) :=
  ⟨(isWide_word16 _ _ _ _).trans rfl, rfl⟩
theorem FirstWordTellsLength.stslFpscr (rn : Reg) : FirstWordTellsLength.Statement (.stslFpscr rn) :=
  ⟨(isWide_word16 _ _ _ _).trans rfl, rfl⟩
theorem FirstWordTellsLength.stclDbr (rn : Reg) : FirstWordTellsLength.Statement (.stclDbr rn) :=
  ⟨(isWide_word16 _ _ _ _).trans rfl, rfl⟩
theorem FirstWordTellsLength.stclSr (rn : Reg) : FirstWordTellsLength.Statement (.stclSr rn) :=
  ⟨(isWide_word16 _ _ _ _).trans rfl, rfl⟩
theorem FirstWordTellsLength.stclGbr (rn : Reg) : FirstWordTellsLength.Statement (.stclGbr rn) :=
  ⟨(isWide_word16 _ _ _ _).trans rfl, rfl⟩
theorem FirstWordTellsLength.stclVbr (rn : Reg) : FirstWordTellsLength.Statement (.stclVbr rn) :=
  ⟨(isWide_word16 _ _ _ _).trans rfl, rfl⟩
theorem FirstWordTellsLength.stclSsr (rn : Reg) : FirstWordTellsLength.Statement (.stclSsr rn) :=
  ⟨(isWide_word16 _ _ _ _).trans rfl, rfl⟩
theorem FirstWordTellsLength.stclSpc (rn : Reg) : FirstWordTellsLength.Statement (.stclSpc rn) :=
  ⟨(isWide_word16 _ _ _ _).trans rfl, rfl⟩
theorem FirstWordTellsLength.stclBank (b : BReg) (rn : Reg) : FirstWordTellsLength.Statement (.stclBank b rn) :=
  ⟨(isWide_word16 _ _ _ _).trans rfl, rfl⟩
theorem FirstWordTellsLength.rotl (rn : Reg) : FirstWordTellsLength.Statement (.rotl rn) :=
  ⟨(isWide_word16 _ _ _ _).trans rfl, rfl⟩
theorem FirstWordTellsLength.rotcl (rn : Reg) : FirstWordTellsLength.Statement (.rotcl rn) :=
  ⟨(isWide_word16 _ _ _ _).trans rfl, rfl⟩
theorem FirstWordTellsLength.shll4 (rn : Reg) : FirstWordTellsLength.Statement (.shll4 rn) :=
  ⟨(isWide_word16 _ _ _ _).trans rfl, rfl⟩
theorem FirstWordTellsLength.rotr (rn : Reg) : FirstWordTellsLength.Statement (.rotr rn) :=
  ⟨(isWide_word16 _ _ _ _).trans rfl, rfl⟩
theorem FirstWordTellsLength.cmpPl (rn : Reg) : FirstWordTellsLength.Statement (.cmpPl rn) :=
  ⟨(isWide_word16 _ _ _ _).trans rfl, rfl⟩
theorem FirstWordTellsLength.rotcr (rn : Reg) : FirstWordTellsLength.Statement (.rotcr rn) :=
  ⟨(isWide_word16 _ _ _ _).trans rfl, rfl⟩
theorem FirstWordTellsLength.shlr4 (rn : Reg) : FirstWordTellsLength.Statement (.shlr4 rn) :=
  ⟨(isWide_word16 _ _ _ _).trans rfl, rfl⟩
theorem FirstWordTellsLength.fmovLoadPcR0 (rn : FReg) : FirstWordTellsLength.Statement (.fmovLoadPcR0 rn) :=
  ⟨(isWide_word16 _ _ _ _).trans rfl, rfl⟩
theorem FirstWordTellsLength.movBLoadPcR0 (rn : Reg) : FirstWordTellsLength.Statement (.movBLoadPcR0 rn) :=
  ⟨(isWide_word16 _ _ _ _).trans rfl, rfl⟩
theorem FirstWordTellsLength.movWLoadPcR0 (rn : Reg) : FirstWordTellsLength.Statement (.movWLoadPcR0 rn) :=
  ⟨(isWide_word16 _ _ _ _).trans rfl, rfl⟩
theorem FirstWordTellsLength.movLLoadPcR0 (rn : Reg) : FirstWordTellsLength.Statement (.movLLoadPcR0 rn) :=
  ⟨(isWide_word16 _ _ _ _).trans rfl, rfl⟩
theorem FirstWordTellsLength.leaBPcR0 (rn : Reg) : FirstWordTellsLength.Statement (.leaBPcR0 rn) :=
  ⟨(isWide_word16 _ _ _ _).trans rfl, rfl⟩
theorem FirstWordTellsLength.ldslMach (rm : Reg) : FirstWordTellsLength.Statement (.ldslMach rm) :=
  ⟨(isWide_word16 _ _ _ _).trans rfl, rfl⟩
theorem FirstWordTellsLength.ldslMacl (rm : Reg) : FirstWordTellsLength.Statement (.ldslMacl rm) :=
  ⟨(isWide_word16 _ _ _ _).trans rfl, rfl⟩
theorem FirstWordTellsLength.ldslPr (rm : Reg) : FirstWordTellsLength.Statement (.ldslPr rm) :=
  ⟨(isWide_word16 _ _ _ _).trans rfl, rfl⟩
theorem FirstWordTellsLength.ldclSgr (rm : Reg) : FirstWordTellsLength.Statement (.ldclSgr rm) :=
  ⟨(isWide_word16 _ _ _ _).trans rfl, rfl⟩
theorem FirstWordTellsLength.ldslFpul (rm : Reg) : FirstWordTellsLength.Statement (.ldslFpul rm) :=
  ⟨(isWide_word16 _ _ _ _).trans rfl, rfl⟩
theorem FirstWordTellsLength.ldslFpscr (rm : Reg) : FirstWordTellsLength.Statement (.ldslFpscr rm) :=
  ⟨(isWide_word16 _ _ _ _).trans rfl, rfl⟩
theorem FirstWordTellsLength.ldclDbr (rm : Reg) : FirstWordTellsLength.Statement (.ldclDbr rm) :=
  ⟨(isWide_word16 _ _ _ _).trans rfl, rfl⟩
theorem FirstWordTellsLength.ldclSr (rm : Reg) : FirstWordTellsLength.Statement (.ldclSr rm) :=
  ⟨(isWide_word16 _ _ _ _).trans rfl, rfl⟩
theorem FirstWordTellsLength.ldclGbr (rm : Reg) : FirstWordTellsLength.Statement (.ldclGbr rm) :=
  ⟨(isWide_word16 _ _ _ _).trans rfl, rfl⟩
theorem FirstWordTellsLength.ldclVbr (rm : Reg) : FirstWordTellsLength.Statement (.ldclVbr rm) :=
  ⟨(isWide_word16 _ _ _ _).trans rfl, rfl⟩
theorem FirstWordTellsLength.ldclSsr (rm : Reg) : FirstWordTellsLength.Statement (.ldclSsr rm) :=
  ⟨(isWide_word16 _ _ _ _).trans rfl, rfl⟩
theorem FirstWordTellsLength.ldclSpc (rm : Reg) : FirstWordTellsLength.Statement (.ldclSpc rm) :=
  ⟨(isWide_word16 _ _ _ _).trans rfl, rfl⟩
theorem FirstWordTellsLength.ldclBank (rm : Reg) (b : BReg) : FirstWordTellsLength.Statement (.ldclBank rm b) :=
  ⟨(isWide_word16 _ _ _ _).trans rfl, rfl⟩
theorem FirstWordTellsLength.shll2 (rn : Reg) : FirstWordTellsLength.Statement (.shll2 rn) :=
  ⟨(isWide_word16 _ _ _ _).trans rfl, rfl⟩
theorem FirstWordTellsLength.shll8 (rn : Reg) : FirstWordTellsLength.Statement (.shll8 rn) :=
  ⟨(isWide_word16 _ _ _ _).trans rfl, rfl⟩
theorem FirstWordTellsLength.shll16 (rn : Reg) : FirstWordTellsLength.Statement (.shll16 rn) :=
  ⟨(isWide_word16 _ _ _ _).trans rfl, rfl⟩
theorem FirstWordTellsLength.shlr2 (rn : Reg) : FirstWordTellsLength.Statement (.shlr2 rn) :=
  ⟨(isWide_word16 _ _ _ _).trans rfl, rfl⟩
theorem FirstWordTellsLength.shlr8 (rn : Reg) : FirstWordTellsLength.Statement (.shlr8 rn) :=
  ⟨(isWide_word16 _ _ _ _).trans rfl, rfl⟩
theorem FirstWordTellsLength.shlr16 (rn : Reg) : FirstWordTellsLength.Statement (.shlr16 rn) :=
  ⟨(isWide_word16 _ _ _ _).trans rfl, rfl⟩
theorem FirstWordTellsLength.ldsMach (rm : Reg) : FirstWordTellsLength.Statement (.ldsMach rm) :=
  ⟨(isWide_word16 _ _ _ _).trans rfl, rfl⟩
theorem FirstWordTellsLength.ldsMacl (rm : Reg) : FirstWordTellsLength.Statement (.ldsMacl rm) :=
  ⟨(isWide_word16 _ _ _ _).trans rfl, rfl⟩
theorem FirstWordTellsLength.ldsPr (rm : Reg) : FirstWordTellsLength.Statement (.ldsPr rm) :=
  ⟨(isWide_word16 _ _ _ _).trans rfl, rfl⟩
theorem FirstWordTellsLength.ldcSgr (rm : Reg) : FirstWordTellsLength.Statement (.ldcSgr rm) :=
  ⟨(isWide_word16 _ _ _ _).trans rfl, rfl⟩
theorem FirstWordTellsLength.ldsFpul (rm : Reg) : FirstWordTellsLength.Statement (.ldsFpul rm) :=
  ⟨(isWide_word16 _ _ _ _).trans rfl, rfl⟩
theorem FirstWordTellsLength.ldsFpscr (rm : Reg) : FirstWordTellsLength.Statement (.ldsFpscr rm) :=
  ⟨(isWide_word16 _ _ _ _).trans rfl, rfl⟩
theorem FirstWordTellsLength.ldcDbr (rm : Reg) : FirstWordTellsLength.Statement (.ldcDbr rm) :=
  ⟨(isWide_word16 _ _ _ _).trans rfl, rfl⟩
theorem FirstWordTellsLength.jsr (rm : Reg) : FirstWordTellsLength.Statement (.jsr rm) :=
  ⟨(isWide_word16 _ _ _ _).trans rfl, rfl⟩
theorem FirstWordTellsLength.jmp (rm : Reg) : FirstWordTellsLength.Statement (.jmp rm) :=
  ⟨(isWide_word16 _ _ _ _).trans rfl, rfl⟩
theorem FirstWordTellsLength.jsrN (rm : Reg) : FirstWordTellsLength.Statement (.jsrN rm) :=
  ⟨(isWide_word16 _ _ _ _).trans rfl, rfl⟩
theorem FirstWordTellsLength.movBStoreR0PostInc (rn : Reg) : FirstWordTellsLength.Statement (.movBStoreR0PostInc rn) :=
  ⟨(isWide_word16 _ _ _ _).trans rfl, rfl⟩
theorem FirstWordTellsLength.movWStoreR0PostInc (rn : Reg) : FirstWordTellsLength.Statement (.movWStoreR0PostInc rn) :=
  ⟨(isWide_word16 _ _ _ _).trans rfl, rfl⟩
theorem FirstWordTellsLength.movLStoreR0PostInc (rn : Reg) : FirstWordTellsLength.Statement (.movLStoreR0PostInc rn) :=
  ⟨(isWide_word16 _ _ _ _).trans rfl, rfl⟩
theorem FirstWordTellsLength.movBLoadR0PreDec (rm : Reg) : FirstWordTellsLength.Statement (.movBLoadR0PreDec rm) :=
  ⟨(isWide_word16 _ _ _ _).trans rfl, rfl⟩
theorem FirstWordTellsLength.movWLoadR0PreDec (rm : Reg) : FirstWordTellsLength.Statement (.movWLoadR0PreDec rm) :=
  ⟨(isWide_word16 _ _ _ _).trans rfl, rfl⟩
theorem FirstWordTellsLength.movLLoadR0PreDec (rm : Reg) : FirstWordTellsLength.Statement (.movLLoadR0PreDec rm) :=
  ⟨(isWide_word16 _ _ _ _).trans rfl, rfl⟩
theorem FirstWordTellsLength.shad (rm : Reg) (rn : Reg) : FirstWordTellsLength.Statement (.shad rm rn) :=
  ⟨(isWide_word16 _ _ _ _).trans rfl, rfl⟩
theorem FirstWordTellsLength.shld (rm : Reg) (rn : Reg) : FirstWordTellsLength.Statement (.shld rm rn) :=
  ⟨(isWide_word16 _ _ _ _).trans rfl, rfl⟩
theorem FirstWordTellsLength.ldcSr (rm : Reg) : FirstWordTellsLength.Statement (.ldcSr rm) :=
  ⟨(isWide_word16 _ _ _ _).trans rfl, rfl⟩
theorem FirstWordTellsLength.ldcGbr (rm : Reg) : FirstWordTellsLength.Statement (.ldcGbr rm) :=
  ⟨(isWide_word16 _ _ _ _).trans rfl, rfl⟩
theorem FirstWordTellsLength.ldcVbr (rm : Reg) : FirstWordTellsLength.Statement (.ldcVbr rm) :=
  ⟨(isWide_word16 _ _ _ _).trans rfl, rfl⟩
theorem FirstWordTellsLength.ldcSsr (rm : Reg) : FirstWordTellsLength.Statement (.ldcSsr rm) :=
  ⟨(isWide_word16 _ _ _ _).trans rfl, rfl⟩
theorem FirstWordTellsLength.ldcSpc (rm : Reg) : FirstWordTellsLength.Statement (.ldcSpc rm) :=
  ⟨(isWide_word16 _ _ _ _).trans rfl, rfl⟩
theorem FirstWordTellsLength.ldcBank (rm : Reg) (b : BReg) : FirstWordTellsLength.Statement (.ldcBank rm b) :=
  ⟨(isWide_word16 _ _ _ _).trans rfl, rfl⟩
theorem FirstWordTellsLength.movLLoadDisp4 (rm : Reg) (disp : BitVec 4) (rn : Reg) : FirstWordTellsLength.Statement (.movLLoadDisp4 rm disp rn) :=
  ⟨(isWide_word16 _ _ _ _).trans rfl, rfl⟩
theorem FirstWordTellsLength.movBLoadInd (rm : Reg) (rn : Reg) : FirstWordTellsLength.Statement (.movBLoadInd rm rn) :=
  ⟨(isWide_word16 _ _ _ _).trans rfl, rfl⟩
theorem FirstWordTellsLength.movWLoadInd (rm : Reg) (rn : Reg) : FirstWordTellsLength.Statement (.movWLoadInd rm rn) :=
  ⟨(isWide_word16 _ _ _ _).trans rfl, rfl⟩
theorem FirstWordTellsLength.movLLoadInd (rm : Reg) (rn : Reg) : FirstWordTellsLength.Statement (.movLLoadInd rm rn) :=
  ⟨(isWide_word16 _ _ _ _).trans rfl, rfl⟩
theorem FirstWordTellsLength.mov (rm : Reg) (rn : Reg) : FirstWordTellsLength.Statement (.mov rm rn) :=
  ⟨(isWide_word16 _ _ _ _).trans rfl, rfl⟩
theorem FirstWordTellsLength.movBLoadPostInc (rm : Reg) (rn : Reg) : FirstWordTellsLength.Statement (.movBLoadPostInc rm rn) :=
  ⟨(isWide_word16 _ _ _ _).trans rfl, rfl⟩
theorem FirstWordTellsLength.movWLoadPostInc (rm : Reg) (rn : Reg) : FirstWordTellsLength.Statement (.movWLoadPostInc rm rn) :=
  ⟨(isWide_word16 _ _ _ _).trans rfl, rfl⟩
theorem FirstWordTellsLength.movLLoadPostInc (rm : Reg) (rn : Reg) : FirstWordTellsLength.Statement (.movLLoadPostInc rm rn) :=
  ⟨(isWide_word16 _ _ _ _).trans rfl, rfl⟩
theorem FirstWordTellsLength.not (rm : Reg) (rn : Reg) : FirstWordTellsLength.Statement (.not rm rn) :=
  ⟨(isWide_word16 _ _ _ _).trans rfl, rfl⟩
theorem FirstWordTellsLength.swapB (rm : Reg) (rn : Reg) : FirstWordTellsLength.Statement (.swapB rm rn) :=
  ⟨(isWide_word16 _ _ _ _).trans rfl, rfl⟩
theorem FirstWordTellsLength.swapW (rm : Reg) (rn : Reg) : FirstWordTellsLength.Statement (.swapW rm rn) :=
  ⟨(isWide_word16 _ _ _ _).trans rfl, rfl⟩
theorem FirstWordTellsLength.negc (rm : Reg) (rn : Reg) : FirstWordTellsLength.Statement (.negc rm rn) :=
  ⟨(isWide_word16 _ _ _ _).trans rfl, rfl⟩
theorem FirstWordTellsLength.neg (rm : Reg) (rn : Reg) : FirstWordTellsLength.Statement (.neg rm rn) :=
  ⟨(isWide_word16 _ _ _ _).trans rfl, rfl⟩
theorem FirstWordTellsLength.extuB (rm : Reg) (rn : Reg) : FirstWordTellsLength.Statement (.extuB rm rn) :=
  ⟨(isWide_word16 _ _ _ _).trans rfl, rfl⟩
theorem FirstWordTellsLength.extuW (rm : Reg) (rn : Reg) : FirstWordTellsLength.Statement (.extuW rm rn) :=
  ⟨(isWide_word16 _ _ _ _).trans rfl, rfl⟩
theorem FirstWordTellsLength.extsB (rm : Reg) (rn : Reg) : FirstWordTellsLength.Statement (.extsB rm rn) :=
  ⟨(isWide_word16 _ _ _ _).trans rfl, rfl⟩
theorem FirstWordTellsLength.extsW (rm : Reg) (rn : Reg) : FirstWordTellsLength.Statement (.extsW rm rn) :=
  ⟨(isWide_word16 _ _ _ _).trans rfl, rfl⟩
theorem FirstWordTellsLength.addImm8 (imm : BitVec 8) (rn : Reg) : FirstWordTellsLength.Statement (.addImm8 imm rn) :=
  ⟨(isWide_word16 _ _ _ _).trans rfl, rfl⟩
theorem FirstWordTellsLength.movBStoreR0Disp4 (rn : Reg) (disp : BitVec 4) : FirstWordTellsLength.Statement (.movBStoreR0Disp4 rn disp) :=
  ⟨(isWide_word16 _ _ _ _).trans rfl, rfl⟩
theorem FirstWordTellsLength.movWStoreR0Disp4 (rn : Reg) (disp : BitVec 4) : FirstWordTellsLength.Statement (.movWStoreR0Disp4 rn disp) :=
  ⟨(isWide_word16 _ _ _ _).trans rfl, rfl⟩
theorem FirstWordTellsLength.braN8 (label : BitVec 8) : FirstWordTellsLength.Statement (.braN8 label) :=
  ⟨(isWide_word16 _ _ _ _).trans rfl, rfl⟩
theorem FirstWordTellsLength.movBLoadR0Disp4 (rm : Reg) (disp : BitVec 4) : FirstWordTellsLength.Statement (.movBLoadR0Disp4 rm disp) :=
  ⟨(isWide_word16 _ _ _ _).trans rfl, rfl⟩
theorem FirstWordTellsLength.movWLoadR0Disp4 (rm : Reg) (disp : BitVec 4) : FirstWordTellsLength.Statement (.movWLoadR0Disp4 rm disp) :=
  ⟨(isWide_word16 _ _ _ _).trans rfl, rfl⟩
theorem FirstWordTellsLength.cmpEqImm8 (imm : BitVec 8) : FirstWordTellsLength.Statement (.cmpEqImm8 imm) :=
  ⟨(isWide_word16 _ _ _ _).trans rfl, rfl⟩
theorem FirstWordTellsLength.bt8 (label : BitVec 8) : FirstWordTellsLength.Statement (.bt8 label) :=
  ⟨(isWide_word16 _ _ _ _).trans rfl, rfl⟩
theorem FirstWordTellsLength.movi24 (imm : BitVec 24) : FirstWordTellsLength.Statement (.movi24 imm) :=
  ⟨(isWide_word16 _ _ _ _).trans rfl, rfl⟩
theorem FirstWordTellsLength.bf8 (label : BitVec 8) : FirstWordTellsLength.Statement (.bf8 label) :=
  ⟨(isWide_word16 _ _ _ _).trans rfl, rfl⟩
theorem FirstWordTellsLength.btS8 (label : BitVec 8) : FirstWordTellsLength.Statement (.btS8 label) :=
  ⟨(isWide_word16 _ _ _ _).trans rfl, rfl⟩
theorem FirstWordTellsLength.bfS8 (label : BitVec 8) : FirstWordTellsLength.Statement (.bfS8 label) :=
  ⟨(isWide_word16 _ _ _ _).trans rfl, rfl⟩
theorem FirstWordTellsLength.movWLoadPcDisp (disp : BitVec 8) (rn : Reg) : FirstWordTellsLength.Statement (.movWLoadPcDisp disp rn) :=
  ⟨(isWide_word16 _ _ _ _).trans rfl, rfl⟩
theorem FirstWordTellsLength.bra (label : BitVec 12) : FirstWordTellsLength.Statement (.bra label) :=
  ⟨(isWide_word16 _ _ _ _).trans rfl, rfl⟩
theorem FirstWordTellsLength.bsr (label : BitVec 12) : FirstWordTellsLength.Statement (.bsr label) :=
  ⟨(isWide_word16 _ _ _ _).trans rfl, rfl⟩
theorem FirstWordTellsLength.movBStoreGbr8 (disp : BitVec 8) : FirstWordTellsLength.Statement (.movBStoreGbr8 disp) :=
  ⟨(isWide_word16 _ _ _ _).trans rfl, rfl⟩
theorem FirstWordTellsLength.movWStoreGbr8 (disp : BitVec 8) : FirstWordTellsLength.Statement (.movWStoreGbr8 disp) :=
  ⟨(isWide_word16 _ _ _ _).trans rfl, rfl⟩
theorem FirstWordTellsLength.movLStoreGbr8 (disp : BitVec 8) : FirstWordTellsLength.Statement (.movLStoreGbr8 disp) :=
  ⟨(isWide_word16 _ _ _ _).trans rfl, rfl⟩
theorem FirstWordTellsLength.trapa (imm : BitVec 8) : FirstWordTellsLength.Statement (.trapa imm) :=
  ⟨(isWide_word16 _ _ _ _).trans rfl, rfl⟩
theorem FirstWordTellsLength.movBLoadGbr8 (disp : BitVec 8) : FirstWordTellsLength.Statement (.movBLoadGbr8 disp) :=
  ⟨(isWide_word16 _ _ _ _).trans rfl, rfl⟩
theorem FirstWordTellsLength.movWLoadGbr8 (disp : BitVec 8) : FirstWordTellsLength.Statement (.movWLoadGbr8 disp) :=
  ⟨(isWide_word16 _ _ _ _).trans rfl, rfl⟩
theorem FirstWordTellsLength.movLLoadGbr8 (disp : BitVec 8) : FirstWordTellsLength.Statement (.movLLoadGbr8 disp) :=
  ⟨(isWide_word16 _ _ _ _).trans rfl, rfl⟩
theorem FirstWordTellsLength.mova (disp : BitVec 8) : FirstWordTellsLength.Statement (.mova disp) :=
  ⟨(isWide_word16 _ _ _ _).trans rfl, rfl⟩
theorem FirstWordTellsLength.tstImm8 (imm : BitVec 8) : FirstWordTellsLength.Statement (.tstImm8 imm) :=
  ⟨(isWide_word16 _ _ _ _).trans rfl, rfl⟩
theorem FirstWordTellsLength.andImm8 (imm : BitVec 8) : FirstWordTellsLength.Statement (.andImm8 imm) :=
  ⟨(isWide_word16 _ _ _ _).trans rfl, rfl⟩
theorem FirstWordTellsLength.xorImm8 (imm : BitVec 8) : FirstWordTellsLength.Statement (.xorImm8 imm) :=
  ⟨(isWide_word16 _ _ _ _).trans rfl, rfl⟩
theorem FirstWordTellsLength.orImm8 (imm : BitVec 8) : FirstWordTellsLength.Statement (.orImm8 imm) :=
  ⟨(isWide_word16 _ _ _ _).trans rfl, rfl⟩
theorem FirstWordTellsLength.movLLoadPcDisp (disp : BitVec 8) (rn : Reg) : FirstWordTellsLength.Statement (.movLLoadPcDisp disp rn) :=
  ⟨(isWide_word16 _ _ _ _).trans rfl, rfl⟩
theorem FirstWordTellsLength.movImm8 (imm : BitVec 8) (rn : Reg) : FirstWordTellsLength.Statement (.movImm8 imm rn) :=
  ⟨(isWide_word16 _ _ _ _).trans rfl, rfl⟩
theorem FirstWordTellsLength.fadd (rm : FReg) (rn : FReg) : FirstWordTellsLength.Statement (.fadd rm rn) :=
  ⟨(isWide_word16 _ _ _ _).trans rfl, rfl⟩
theorem FirstWordTellsLength.fsub (rm : FReg) (rn : FReg) : FirstWordTellsLength.Statement (.fsub rm rn) :=
  ⟨(isWide_word16 _ _ _ _).trans rfl, rfl⟩
theorem FirstWordTellsLength.fmul (rm : FReg) (rn : FReg) : FirstWordTellsLength.Statement (.fmul rm rn) :=
  ⟨(isWide_word16 _ _ _ _).trans rfl, rfl⟩
theorem FirstWordTellsLength.fdiv (rm : FReg) (rn : FReg) : FirstWordTellsLength.Statement (.fdiv rm rn) :=
  ⟨(isWide_word16 _ _ _ _).trans rfl, rfl⟩
theorem FirstWordTellsLength.fcmpEq (rm : FReg) (rn : FReg) : FirstWordTellsLength.Statement (.fcmpEq rm rn) :=
  ⟨(isWide_word16 _ _ _ _).trans rfl, rfl⟩
theorem FirstWordTellsLength.fcmpGt (rm : FReg) (rn : FReg) : FirstWordTellsLength.Statement (.fcmpGt rm rn) :=
  ⟨(isWide_word16 _ _ _ _).trans rfl, rfl⟩
theorem FirstWordTellsLength.fmovLoadR0Idx (rm : Reg) (rn : FReg) : FirstWordTellsLength.Statement (.fmovLoadR0Idx rm rn) :=
  ⟨(isWide_word16 _ _ _ _).trans rfl, rfl⟩
theorem FirstWordTellsLength.fmovStoreR0Idx (rm : FReg) (rn : Reg) : FirstWordTellsLength.Statement (.fmovStoreR0Idx rm rn) :=
  ⟨(isWide_word16 _ _ _ _).trans rfl, rfl⟩
theorem FirstWordTellsLength.fmovLoadInd (rm : Reg) (rn : FReg) : FirstWordTellsLength.Statement (.fmovLoadInd rm rn) :=
  ⟨(isWide_word16 _ _ _ _).trans rfl, rfl⟩
theorem FirstWordTellsLength.fmovLoadPostInc (rm : Reg) (rn : FReg) : FirstWordTellsLength.Statement (.fmovLoadPostInc rm rn) :=
  ⟨(isWide_word16 _ _ _ _).trans rfl, rfl⟩
theorem FirstWordTellsLength.fmovStoreInd (rm : FReg) (rn : Reg) : FirstWordTellsLength.Statement (.fmovStoreInd rm rn) :=
  ⟨(isWide_word16 _ _ _ _).trans rfl, rfl⟩
theorem FirstWordTellsLength.fmovStorePreDec (rm : FReg) (rn : Reg) : FirstWordTellsLength.Statement (.fmovStorePreDec rm rn) :=
  ⟨(isWide_word16 _ _ _ _).trans rfl, rfl⟩
theorem FirstWordTellsLength.fmov (rm : FReg) (rn : FReg) : FirstWordTellsLength.Statement (.fmov rm rn) :=
  ⟨(isWide_word16 _ _ _ _).trans rfl, rfl⟩
theorem FirstWordTellsLength.fsts (rn : FReg) : FirstWordTellsLength.Statement (.fsts rn) :=
  ⟨(isWide_word16 _ _ _ _).trans rfl, rfl⟩
theorem FirstWordTellsLength.flds (rm : FReg) : FirstWordTellsLength.Statement (.flds rm) :=
  ⟨(isWide_word16 _ _ _ _).trans rfl, rfl⟩
theorem FirstWordTellsLength.float (rn : FReg) : FirstWordTellsLength.Statement (.float rn) :=
  ⟨(isWide_word16 _ _ _ _).trans rfl, rfl⟩
theorem FirstWordTellsLength.ftrc (rm : FReg) : FirstWordTellsLength.Statement (.ftrc rm) :=
  ⟨(isWide_word16 _ _ _ _).trans rfl, rfl⟩
theorem FirstWordTellsLength.fneg (rn : FReg) : FirstWordTellsLength.Statement (.fneg rn) :=
  ⟨(isWide_word16 _ _ _ _).trans rfl, rfl⟩
theorem FirstWordTellsLength.fabs (rn : FReg) : FirstWordTellsLength.Statement (.fabs rn) :=
  ⟨(isWide_word16 _ _ _ _).trans rfl, rfl⟩
theorem FirstWordTellsLength.fsqrt (rn : FReg) : FirstWordTellsLength.Statement (.fsqrt rn) :=
  ⟨(isWide_word16 _ _ _ _).trans rfl, rfl⟩
theorem FirstWordTellsLength.fldi0 (rn : FReg) : FirstWordTellsLength.Statement (.fldi0 rn) :=
  ⟨(isWide_word16 _ _ _ _).trans rfl, rfl⟩
theorem FirstWordTellsLength.fldi1 (rn : FReg) : FirstWordTellsLength.Statement (.fldi1 rn) :=
  ⟨(isWide_word16 _ _ _ _).trans rfl, rfl⟩
theorem FirstWordTellsLength.fcnvsd (rn : FReg) : FirstWordTellsLength.Statement (.fcnvsd rn) :=
  ⟨(isWide_word16 _ _ _ _).trans rfl, rfl⟩
theorem FirstWordTellsLength.fcnvds (rm : FReg) : FirstWordTellsLength.Statement (.fcnvds rm) :=
  ⟨(isWide_word16 _ _ _ _).trans rfl, rfl⟩
theorem FirstWordTellsLength.psetmd (imm : BitVec 4) : FirstWordTellsLength.Statement (.psetmd imm) :=
  ⟨(isWide_word16 _ _ _ _).trans rfl, rfl⟩
theorem FirstWordTellsLength.fschg : FirstWordTellsLength.Statement .fschg :=
  ⟨(isWide_word16 _ _ _ _).trans rfl, rfl⟩
theorem FirstWordTellsLength.fpchg : FirstWordTellsLength.Statement .fpchg :=
  ⟨(isWide_word16 _ _ _ _).trans rfl, rfl⟩
theorem FirstWordTellsLength.frchg : FirstWordTellsLength.Statement .frchg :=
  ⟨(isWide_word16 _ _ _ _).trans rfl, rfl⟩
theorem FirstWordTellsLength.fmac (rm : FReg) (rn : FReg) : FirstWordTellsLength.Statement (.fmac rm rn) :=
  ⟨(isWide_word16 _ _ _ _).trans rfl, rfl⟩
theorem FirstWordTellsLength.movBStoreIdx4 (rm : Reg) (rn : Reg) (ro : Reg) (disp : BitVec 4) : FirstWordTellsLength.Statement (.movBStoreIdx4 rm rn ro disp) :=
  ⟨(isWide_word16 _ _ _ _).trans rfl, rfl⟩
theorem FirstWordTellsLength.movWStoreIdx4 (rm : Reg) (rn : Reg) (ro : Reg) (disp : BitVec 4) : FirstWordTellsLength.Statement (.movWStoreIdx4 rm rn ro disp) :=
  ⟨(isWide_word16 _ _ _ _).trans rfl, rfl⟩
theorem FirstWordTellsLength.movLStoreIdx4 (rm : Reg) (rn : Reg) (ro : Reg) (disp : BitVec 4) : FirstWordTellsLength.Statement (.movLStoreIdx4 rm rn ro disp) :=
  ⟨(isWide_word16 _ _ _ _).trans rfl, rfl⟩
theorem FirstWordTellsLength.movBLoadIdx4 (rm : Reg) (ro : Reg) (disp : BitVec 4) (rn : Reg) : FirstWordTellsLength.Statement (.movBLoadIdx4 rm ro disp rn) :=
  ⟨(isWide_word16 _ _ _ _).trans rfl, rfl⟩
theorem FirstWordTellsLength.movWLoadIdx4 (rm : Reg) (ro : Reg) (disp : BitVec 4) (rn : Reg) : FirstWordTellsLength.Statement (.movWLoadIdx4 rm ro disp rn) :=
  ⟨(isWide_word16 _ _ _ _).trans rfl, rfl⟩
theorem FirstWordTellsLength.movLLoadIdx4 (rm : Reg) (ro : Reg) (disp : BitVec 4) (rn : Reg) : FirstWordTellsLength.Statement (.movLLoadIdx4 rm ro disp rn) :=
  ⟨(isWide_word16 _ _ _ _).trans rfl, rfl⟩
theorem FirstWordTellsLength.movLStoreIdx8 (rm : Reg) (rn : Reg) (ro : Reg) (disp : BitVec 8) : FirstWordTellsLength.Statement (.movLStoreIdx8 rm rn ro disp) :=
  ⟨(isWide_word16 _ _ _ _).trans rfl, rfl⟩
theorem FirstWordTellsLength.movBStoreDisp8 (rm : Reg) (rn : Reg) (disp : BitVec 8) : FirstWordTellsLength.Statement (.movBStoreDisp8 rm rn disp) :=
  ⟨(isWide_word16 _ _ _ _).trans rfl, rfl⟩
theorem FirstWordTellsLength.movWStoreDisp8 (rm : Reg) (rn : Reg) (disp : BitVec 8) : FirstWordTellsLength.Statement (.movWStoreDisp8 rm rn disp) :=
  ⟨(isWide_word16 _ _ _ _).trans rfl, rfl⟩
theorem FirstWordTellsLength.movLStoreDisp8 (rm : Reg) (rn : Reg) (disp : BitVec 8) : FirstWordTellsLength.Statement (.movLStoreDisp8 rm rn disp) :=
  ⟨(isWide_word16 _ _ _ _).trans rfl, rfl⟩
theorem FirstWordTellsLength.fmovStoreDisp8 (rm : FReg) (rn : Reg) (disp : BitVec 8) : FirstWordTellsLength.Statement (.fmovStoreDisp8 rm rn disp) :=
  ⟨(isWide_word16 _ _ _ _).trans rfl, rfl⟩
theorem FirstWordTellsLength.fmovLoadDisp8 (rm : Reg) (disp : BitVec 8) (rn : FReg) : FirstWordTellsLength.Statement (.fmovLoadDisp8 rm disp rn) :=
  ⟨(isWide_word16 _ _ _ _).trans rfl, rfl⟩
theorem FirstWordTellsLength.and3Imm8 (rm : Reg) (imm : BitVec 8) (rn : Reg) : FirstWordTellsLength.Statement (.and3Imm8 rm imm rn) :=
  ⟨(isWide_word16 _ _ _ _).trans rfl, rfl⟩
theorem FirstWordTellsLength.xor3Imm8 (rm : Reg) (imm : BitVec 8) (rn : Reg) : FirstWordTellsLength.Statement (.xor3Imm8 rm imm rn) :=
  ⟨(isWide_word16 _ _ _ _).trans rfl, rfl⟩
theorem FirstWordTellsLength.or3Imm8 (rm : Reg) (imm : BitVec 8) (rn : Reg) : FirstWordTellsLength.Statement (.or3Imm8 rm imm rn) :=
  ⟨(isWide_word16 _ _ _ _).trans rfl, rfl⟩
theorem FirstWordTellsLength.mul3Imm8 (rm : Reg) (imm : BitVec 8) (rn : Reg) : FirstWordTellsLength.Statement (.mul3Imm8 rm imm rn) :=
  ⟨(isWide_word16 _ _ _ _).trans rfl, rfl⟩
theorem FirstWordTellsLength.mul3NegImm8 (rm : Reg) (imm : BitVec 8) (rn : Reg) : FirstWordTellsLength.Statement (.mul3NegImm8 rm imm rn) :=
  ⟨(isWide_word16 _ _ _ _).trans rfl, rfl⟩
theorem FirstWordTellsLength.cmpEqImm12 (imm : BitVec 12) (rn : Reg) : FirstWordTellsLength.Statement (.cmpEqImm12 imm rn) :=
  ⟨(isWide_word16 _ _ _ _).trans rfl, rfl⟩
theorem FirstWordTellsLength.cmpHsImm12 (imm : BitVec 12) (rn : Reg) : FirstWordTellsLength.Statement (.cmpHsImm12 imm rn) :=
  ⟨(isWide_word16 _ _ _ _).trans rfl, rfl⟩
theorem FirstWordTellsLength.cmpGeImm12 (imm : BitVec 12) (rn : Reg) : FirstWordTellsLength.Statement (.cmpGeImm12 imm rn) :=
  ⟨(isWide_word16 _ _ _ _).trans rfl, rfl⟩
theorem FirstWordTellsLength.cmpHiImm12 (imm : BitVec 12) (rn : Reg) : FirstWordTellsLength.Statement (.cmpHiImm12 imm rn) :=
  ⟨(isWide_word16 _ _ _ _).trans rfl, rfl⟩
theorem FirstWordTellsLength.cmpGtImm12 (imm : BitVec 12) (rn : Reg) : FirstWordTellsLength.Statement (.cmpGtImm12 imm rn) :=
  ⟨(isWide_word16 _ _ _ _).trans rfl, rfl⟩
theorem FirstWordTellsLength.sub3Imm8 (rm : Reg) (imm : BitVec 8) (rn : Reg) : FirstWordTellsLength.Statement (.sub3Imm8 rm imm rn) :=
  ⟨(isWide_word16 _ _ _ _).trans rfl, rfl⟩
theorem FirstWordTellsLength.and3NegImm8 (rm : Reg) (imm : BitVec 8) (rn : Reg) : FirstWordTellsLength.Statement (.and3NegImm8 rm imm rn) :=
  ⟨(isWide_word16 _ _ _ _).trans rfl, rfl⟩
theorem FirstWordTellsLength.add3Imm8 (rm : Reg) (imm : BitVec 8) (rn : Reg) : FirstWordTellsLength.Statement (.add3Imm8 rm imm rn) :=
  ⟨(isWide_word16 _ _ _ _).trans rfl, rfl⟩
theorem FirstWordTellsLength.add3 (rs : Reg) (rt : Reg) (rn : Reg) : FirstWordTellsLength.Statement (.add3 rs rt rn) :=
  ⟨(isWide_word16 _ _ _ _).trans rfl, rfl⟩
theorem FirstWordTellsLength.sub3 (rs : Reg) (rt : Reg) (rn : Reg) : FirstWordTellsLength.Statement (.sub3 rs rt rn) :=
  ⟨(isWide_word16 _ _ _ _).trans rfl, rfl⟩
theorem FirstWordTellsLength.mul3 (rs : Reg) (rt : Reg) (rn : Reg) : FirstWordTellsLength.Statement (.mul3 rs rt rn) :=
  ⟨(isWide_word16 _ _ _ _).trans rfl, rfl⟩
theorem FirstWordTellsLength.and3 (rs : Reg) (rt : Reg) (rn : Reg) : FirstWordTellsLength.Statement (.and3 rs rt rn) :=
  ⟨(isWide_word16 _ _ _ _).trans rfl, rfl⟩
theorem FirstWordTellsLength.or3 (rs : Reg) (rt : Reg) (rn : Reg) : FirstWordTellsLength.Statement (.or3 rs rt rn) :=
  ⟨(isWide_word16 _ _ _ _).trans rfl, rfl⟩
theorem FirstWordTellsLength.xor3 (rs : Reg) (rt : Reg) (rn : Reg) : FirstWordTellsLength.Statement (.xor3 rs rt rn) :=
  ⟨(isWide_word16 _ _ _ _).trans rfl, rfl⟩
theorem FirstWordTellsLength.shld3 (rs : Reg) (rt : Reg) (rn : Reg) : FirstWordTellsLength.Statement (.shld3 rs rt rn) :=
  ⟨(isWide_word16 _ _ _ _).trans rfl, rfl⟩
theorem FirstWordTellsLength.shlr3 (rs : Reg) (rt : Reg) (rn : Reg) : FirstWordTellsLength.Statement (.shlr3 rs rt rn) :=
  ⟨(isWide_word16 _ _ _ _).trans rfl, rfl⟩
theorem FirstWordTellsLength.shad3 (rs : Reg) (rt : Reg) (rn : Reg) : FirstWordTellsLength.Statement (.shad3 rs rt rn) :=
  ⟨(isWide_word16 _ _ _ _).trans rfl, rfl⟩
theorem FirstWordTellsLength.shar3 (rs : Reg) (rt : Reg) (rn : Reg) : FirstWordTellsLength.Statement (.shar3 rs rt rn) :=
  ⟨(isWide_word16 _ _ _ _).trans rfl, rfl⟩
theorem FirstWordTellsLength.cselt (rs : Reg) (rt : Reg) (rn : Reg) : FirstWordTellsLength.Statement (.cselt rs rt rn) :=
  ⟨(isWide_word16 _ _ _ _).trans rfl, rfl⟩
theorem FirstWordTellsLength.fadd3 (rs : FReg) (rt : FReg) (rn : FReg) : FirstWordTellsLength.Statement (.fadd3 rs rt rn) :=
  ⟨(isWide_word16 _ _ _ _).trans rfl, rfl⟩
theorem FirstWordTellsLength.fsub3 (rs : FReg) (rt : FReg) (rn : FReg) : FirstWordTellsLength.Statement (.fsub3 rs rt rn) :=
  ⟨(isWide_word16 _ _ _ _).trans rfl, rfl⟩
theorem FirstWordTellsLength.fmul3 (rs : FReg) (rt : FReg) (rn : FReg) : FirstWordTellsLength.Statement (.fmul3 rs rt rn) :=
  ⟨(isWide_word16 _ _ _ _).trans rfl, rfl⟩
theorem FirstWordTellsLength.fdiv3 (rs : FReg) (rt : FReg) (rn : FReg) : FirstWordTellsLength.Statement (.fdiv3 rs rt rn) :=
  ⟨(isWide_word16 _ _ _ _).trans rfl, rfl⟩
theorem FirstWordTellsLength.shad3Imm8 (rm : Reg) (imm : BitVec 8) (rn : Reg) : FirstWordTellsLength.Statement (.shad3Imm8 rm imm rn) :=
  ⟨(isWide_word16 _ _ _ _).trans rfl, rfl⟩
theorem FirstWordTellsLength.shld3Imm8 (rm : Reg) (imm : BitVec 8) (rn : Reg) : FirstWordTellsLength.Statement (.shld3Imm8 rm imm rn) :=
  ⟨(isWide_word16 _ _ _ _).trans rfl, rfl⟩
theorem FirstWordTellsLength.movuBLoadIdx (rm : Reg) (ro : Reg) (rn : Reg) : FirstWordTellsLength.Statement (.movuBLoadIdx rm ro rn) :=
  ⟨(isWide_word16 _ _ _ _).trans rfl, rfl⟩
theorem FirstWordTellsLength.movuWLoadIdx (rm : Reg) (ro : Reg) (rn : Reg) : FirstWordTellsLength.Statement (.movuWLoadIdx rm ro rn) :=
  ⟨(isWide_word16 _ _ _ _).trans rfl, rfl⟩
theorem FirstWordTellsLength.fmovLoadIdx (rm : Reg) (ro : Reg) (rn : FReg) : FirstWordTellsLength.Statement (.fmovLoadIdx rm ro rn) :=
  ⟨(isWide_word16 _ _ _ _).trans rfl, rfl⟩
theorem FirstWordTellsLength.fmovStoreIdx (rm : FReg) (rn : Reg) (ro : Reg) : FirstWordTellsLength.Statement (.fmovStoreIdx rm rn ro) :=
  ⟨(isWide_word16 _ _ _ _).trans rfl, rfl⟩
theorem FirstWordTellsLength.movLLoadIdx8 (rm : Reg) (ro : Reg) (disp : BitVec 8) (rn : Reg) : FirstWordTellsLength.Statement (.movLLoadIdx8 rm ro disp rn) :=
  ⟨(isWide_word16 _ _ _ _).trans rfl, rfl⟩
theorem FirstWordTellsLength.movBLoadDisp8 (rm : Reg) (disp : BitVec 8) (rn : Reg) : FirstWordTellsLength.Statement (.movBLoadDisp8 rm disp rn) :=
  ⟨(isWide_word16 _ _ _ _).trans rfl, rfl⟩
theorem FirstWordTellsLength.movWLoadDisp8 (rm : Reg) (disp : BitVec 8) (rn : Reg) : FirstWordTellsLength.Statement (.movWLoadDisp8 rm disp rn) :=
  ⟨(isWide_word16 _ _ _ _).trans rfl, rfl⟩
theorem FirstWordTellsLength.movLLoadDisp8 (rm : Reg) (disp : BitVec 8) (rn : Reg) : FirstWordTellsLength.Statement (.movLLoadDisp8 rm disp rn) :=
  ⟨(isWide_word16 _ _ _ _).trans rfl, rfl⟩
theorem FirstWordTellsLength.leaBIdx4 (rm : Reg) (ro : Reg) (disp : BitVec 4) (rn : Reg) : FirstWordTellsLength.Statement (.leaBIdx4 rm ro disp rn) :=
  ⟨(isWide_word16 _ _ _ _).trans rfl, rfl⟩
theorem FirstWordTellsLength.leaWIdx4 (rm : Reg) (ro : Reg) (disp : BitVec 4) (rn : Reg) : FirstWordTellsLength.Statement (.leaWIdx4 rm ro disp rn) :=
  ⟨(isWide_word16 _ _ _ _).trans rfl, rfl⟩
theorem FirstWordTellsLength.leaLIdx4 (rm : Reg) (ro : Reg) (disp : BitVec 4) (rn : Reg) : FirstWordTellsLength.Statement (.leaLIdx4 rm ro disp rn) :=
  ⟨(isWide_word16 _ _ _ _).trans rfl, rfl⟩
theorem FirstWordTellsLength.leaQIdx4 (rm : Reg) (ro : Reg) (disp : BitVec 4) (rn : Reg) : FirstWordTellsLength.Statement (.leaQIdx4 rm ro disp rn) :=
  ⟨(isWide_word16 _ _ _ _).trans rfl, rfl⟩
theorem FirstWordTellsLength.leaBDisp8 (rm : Reg) (disp : BitVec 8) (rn : Reg) : FirstWordTellsLength.Statement (.leaBDisp8 rm disp rn) :=
  ⟨(isWide_word16 _ _ _ _).trans rfl, rfl⟩
theorem FirstWordTellsLength.leaWDisp8 (rm : Reg) (disp : BitVec 8) (rn : Reg) : FirstWordTellsLength.Statement (.leaWDisp8 rm disp rn) :=
  ⟨(isWide_word16 _ _ _ _).trans rfl, rfl⟩
theorem FirstWordTellsLength.leaLDisp8 (rm : Reg) (disp : BitVec 8) (rn : Reg) : FirstWordTellsLength.Statement (.leaLDisp8 rm disp rn) :=
  ⟨(isWide_word16 _ _ _ _).trans rfl, rfl⟩
theorem FirstWordTellsLength.leaQDisp8 (rm : Reg) (disp : BitVec 8) (rn : Reg) : FirstWordTellsLength.Statement (.leaQDisp8 rm disp rn) :=
  ⟨(isWide_word16 _ _ _ _).trans rfl, rfl⟩
theorem FirstWordTellsLength.movuBLoadDisp8 (rm : Reg) (disp : BitVec 8) (rn : Reg) : FirstWordTellsLength.Statement (.movuBLoadDisp8 rm disp rn) :=
  ⟨(isWide_word16 _ _ _ _).trans rfl, rfl⟩
theorem FirstWordTellsLength.movuWLoadDisp8 (rm : Reg) (disp : BitVec 8) (rn : Reg) : FirstWordTellsLength.Statement (.movuWLoadDisp8 rm disp rn) :=
  ⟨(isWide_word16 _ _ _ _).trans rfl, rfl⟩
theorem FirstWordTellsLength.addImm16 (imm : BitVec 16) (rn : Reg) : FirstWordTellsLength.Statement (.addImm16 imm rn) :=
  ⟨(isWide_word16 _ _ _ _).trans rfl, rfl⟩
theorem FirstWordTellsLength.braN16 (label : BitVec 16) : FirstWordTellsLength.Statement (.braN16 label) :=
  ⟨(isWide_word16 _ _ _ _).trans rfl, rfl⟩
theorem FirstWordTellsLength.bsrN16 (label : BitVec 16) : FirstWordTellsLength.Statement (.bsrN16 label) :=
  ⟨(isWide_word16 _ _ _ _).trans rfl, rfl⟩
theorem FirstWordTellsLength.cmpEqImm16 (imm : BitVec 16) : FirstWordTellsLength.Statement (.cmpEqImm16 imm) :=
  ⟨(isWide_word16 _ _ _ _).trans rfl, rfl⟩
theorem FirstWordTellsLength.bt16 (label : BitVec 16) : FirstWordTellsLength.Statement (.bt16 label) :=
  ⟨(isWide_word16 _ _ _ _).trans rfl, rfl⟩
theorem FirstWordTellsLength.ldhf16Imm (imm : BitVec 16) : FirstWordTellsLength.Statement (.ldhf16Imm imm) :=
  ⟨(isWide_word16 _ _ _ _).trans rfl, rfl⟩
theorem FirstWordTellsLength.bf16 (label : BitVec 16) : FirstWordTellsLength.Statement (.bf16 label) :=
  ⟨(isWide_word16 _ _ _ _).trans rfl, rfl⟩
theorem FirstWordTellsLength.ldif16 (imm : BitVec 16) : FirstWordTellsLength.Statement (.ldif16 imm) :=
  ⟨(isWide_word16 _ _ _ _).trans rfl, rfl⟩
theorem FirstWordTellsLength.btS16 (label : BitVec 16) : FirstWordTellsLength.Statement (.btS16 label) :=
  ⟨(isWide_word16 _ _ _ _).trans rfl, rfl⟩
theorem FirstWordTellsLength.bfS16 (label : BitVec 16) : FirstWordTellsLength.Statement (.bfS16 label) :=
  ⟨(isWide_word16 _ _ _ _).trans rfl, rfl⟩
theorem FirstWordTellsLength.ldsh16 (imm : BitVec 16) (rn : Reg) : FirstWordTellsLength.Statement (.ldsh16 imm rn) :=
  ⟨(isWide_word16 _ _ _ _).trans rfl, rfl⟩
theorem FirstWordTellsLength.movBStoreGbr12 (rm : Reg) (disp : BitVec 12) : FirstWordTellsLength.Statement (.movBStoreGbr12 rm disp) :=
  ⟨(isWide_word16 _ _ _ _).trans rfl, rfl⟩
theorem FirstWordTellsLength.movWStoreGbr12 (rm : Reg) (disp : BitVec 12) : FirstWordTellsLength.Statement (.movWStoreGbr12 rm disp) :=
  ⟨(isWide_word16 _ _ _ _).trans rfl, rfl⟩
theorem FirstWordTellsLength.movLStoreGbr12 (rm : Reg) (disp : BitVec 12) : FirstWordTellsLength.Statement (.movLStoreGbr12 rm disp) :=
  ⟨(isWide_word16 _ _ _ _).trans rfl, rfl⟩
theorem FirstWordTellsLength.movBLoadGbr12 (disp : BitVec 12) (rn : Reg) : FirstWordTellsLength.Statement (.movBLoadGbr12 disp rn) :=
  ⟨(isWide_word16 _ _ _ _).trans rfl, rfl⟩
theorem FirstWordTellsLength.movWLoadGbr12 (disp : BitVec 12) (rn : Reg) : FirstWordTellsLength.Statement (.movWLoadGbr12 disp rn) :=
  ⟨(isWide_word16 _ _ _ _).trans rfl, rfl⟩
theorem FirstWordTellsLength.movLLoadGbr12 (disp : BitVec 12) (rn : Reg) : FirstWordTellsLength.Statement (.movLLoadGbr12 disp rn) :=
  ⟨(isWide_word16 _ _ _ _).trans rfl, rfl⟩
theorem FirstWordTellsLength.tstImm12 (imm : BitVec 12) (rn : Reg) : FirstWordTellsLength.Statement (.tstImm12 imm rn) :=
  ⟨(isWide_word16 _ _ _ _).trans rfl, rfl⟩
theorem FirstWordTellsLength.andImm12 (imm : BitVec 12) (rn : Reg) : FirstWordTellsLength.Statement (.andImm12 imm rn) :=
  ⟨(isWide_word16 _ _ _ _).trans rfl, rfl⟩
theorem FirstWordTellsLength.xorImm12 (imm : BitVec 12) (rn : Reg) : FirstWordTellsLength.Statement (.xorImm12 imm rn) :=
  ⟨(isWide_word16 _ _ _ _).trans rfl, rfl⟩
theorem FirstWordTellsLength.orImm12 (imm : BitVec 12) (rn : Reg) : FirstWordTellsLength.Statement (.orImm12 imm rn) :=
  ⟨(isWide_word16 _ _ _ _).trans rfl, rfl⟩
theorem FirstWordTellsLength.movImm16 (imm : BitVec 16) (rn : Reg) : FirstWordTellsLength.Statement (.movImm16 imm rn) :=
  ⟨(isWide_word16 _ _ _ _).trans rfl, rfl⟩

end Sys2Proof.Laws
end

