-- ==== Sys2Proof/Laws/Shapes.lean ====
section
/-! SUPPORT. For each shape that several instructions share: what it answers when its access reaches memory, and that it
raises what its access raises. -/

namespace Sys2Proof.Machine

variable {w : Width} {ea v : Word} {rm rn : Reg} {s u : State} {pa : Nat} {e : Exc}

/-- A 16-bit load from memory. -/
theorem load16_memory (h : resolve .read s.md w (ea) s = .ok (.memory pa) u) :
    load16 w ea rn s = .next ((u.setReg rn (w.signed (loadBytes s.cfg.endian s.mem pa w))).advance 2) := by
  simp only [load16, memRead_memory h, Access.andThen, done16]

/-- It raises what its access raises. -/
theorem load16_exc (h : resolve .read s.md w (ea) s = .exc e u) :
    load16 w ea rn s = raise e u := by
  simp only [load16, memRead_eq_exc.mpr h, Access.andThen]

/-- A 32-bit load from memory. -/
theorem load32_memory (h : resolve .read s.md w (ea) s = .ok (.memory pa) u) :
    load32 w ea rn s = .next ((u.setReg rn (w.signed (loadBytes s.cfg.endian s.mem pa w))).advance 4) := by
  simp only [load32, memRead_memory h, Access.andThen, done32]

/-- It raises what its access raises. -/
theorem load32_exc (h : resolve .read s.md w (ea) s = .exc e u) :
    load32 w ea rn s = raise e u := by
  simp only [load32, memRead_eq_exc.mpr h, Access.andThen]

/-- A zero-extending load from memory. -/
theorem loadZero32_memory (h : resolve .read s.md w (ea) s = .ok (.memory pa) u) :
    loadZero32 w ea rn s = .next ((u.setReg rn (loadBytes s.cfg.endian s.mem pa w)).advance 4) := by
  simp only [loadZero32, memRead_memory h, Access.andThen, done32]

/-- It raises what its access raises. -/
theorem loadZero32_exc (h : resolve .read s.md w (ea) s = .exc e u) :
    loadZero32 w ea rn s = raise e u := by
  simp only [loadZero32, memRead_eq_exc.mpr h, Access.andThen]

/-- A post-increment load from memory. -/
theorem loadPostInc_memory (h : resolve .read s.md w (s.reg rm) s = .ok (.memory pa) u) :
    loadPostInc w rm rn s = .next (((u.setReg rm (u.reg rm + w.size)).setReg rn (w.signed (loadBytes s.cfg.endian s.mem pa w))).advance 2) := by
  simp only [loadPostInc, memRead_memory h, Access.andThen, done16]

/-- It raises what its access raises. -/
theorem loadPostInc_exc (h : resolve .read s.md w (s.reg rm) s = .exc e u) :
    loadPostInc w rm rn s = raise e u := by
  simp only [loadPostInc, memRead_eq_exc.mpr h, Access.andThen]

/-- A pre-decrement load from memory. -/
theorem loadPreDec_memory (h : resolve .read s.md w (s.reg rm - w.size) s = .ok (.memory pa) u) :
    loadPreDec w rm s = .next (((u.setReg rm (u.reg rm - w.size)).setReg 0 (w.signed (loadBytes s.cfg.endian s.mem pa w))).advance 2) := by
  simp only [loadPreDec, memRead_memory h, Access.andThen, done16]

/-- It raises what its access raises. -/
theorem loadPreDec_exc (h : resolve .read s.md w (s.reg rm - w.size) s = .exc e u) :
    loadPreDec w rm s = raise e u := by
  simp only [loadPreDec, memRead_eq_exc.mpr h, Access.andThen]

/-- A 16-bit store to memory. -/
theorem store16_memory (h : resolve .write s.md w (ea) s = .ok (.memory pa) u) :
    store16 w ea v s = .next ((u.memoryWrite pa w v).advance 2) := by
  simp only [store16, memWrite_memory h, Access.andThen, done16]

/-- It raises what its access raises. -/
theorem store16_exc (h : resolve .write s.md w (ea) s = .exc e u) :
    store16 w ea v s = raise e u := by
  simp only [store16, memWrite_eq_exc.mpr h, Access.andThen]

/-- A 32-bit store to memory. -/
theorem store32_memory (h : resolve .write s.md w (ea) s = .ok (.memory pa) u) :
    store32 w ea v s = .next ((u.memoryWrite pa w v).advance 4) := by
  simp only [store32, memWrite_memory h, Access.andThen, done32]

/-- It raises what its access raises. -/
theorem store32_exc (h : resolve .write s.md w (ea) s = .exc e u) :
    store32 w ea v s = raise e u := by
  simp only [store32, memWrite_eq_exc.mpr h, Access.andThen]

/-- A pre-decrement store to memory. -/
theorem storePreDec_memory (h : resolve .write s.md w (s.reg rn - w.size) s = .ok (.memory pa) u) :
    storePreDec w v rn s = .next (((u.memoryWrite pa w v).setReg rn ((u.memoryWrite pa w v).reg rn - w.size)).advance 2) := by
  simp only [storePreDec, memWrite_memory h, Access.andThen, done16]

/-- It raises what its access raises. -/
theorem storePreDec_exc (h : resolve .write s.md w (s.reg rn - w.size) s = .exc e u) :
    storePreDec w v rn s = raise e u := by
  simp only [storePreDec, memWrite_eq_exc.mpr h, Access.andThen]

/-- A post-increment store to memory. -/
theorem storePostInc_memory (h : resolve .write s.md w (s.reg rn) s = .ok (.memory pa) u) :
    storePostInc w rn s = .next (((u.memoryWrite pa w (s.reg 0)).setReg rn ((u.memoryWrite pa w (s.reg 0)).reg rn + w.size)).advance 2) := by
  simp only [storePostInc, memWrite_memory h, Access.andThen, done16]

/-- It raises what its access raises. -/
theorem storePostInc_exc (h : resolve .write s.md w (s.reg rn) s = .exc e u) :
    storePostInc w rn s = raise e u := by
  simp only [storePostInc, memWrite_eq_exc.mpr h, Access.andThen]

/-- A load of a special register from memory. -/
theorem popTo_memory {set : Word → State → State} (h : resolve .read s.md .long (s.reg rm) s = .ok (.memory pa) u) :
    popTo set rm s = .next ((set (loadBytes s.cfg.endian s.mem pa .long) (u.setReg rm (u.reg rm + 4))).advance 2) := by
  simp only [popTo, memRead_memory h, Access.andThen, done16]

/-- It raises what its access raises. -/
theorem popTo_exc {set : Word → State → State} (h : resolve .read s.md .long (s.reg rm) s = .exc e u) :
    popTo set rm s = raise e u := by
  simp only [popTo, memRead_eq_exc.mpr h, Access.andThen]

/-! ### The checks of the floating-point instructions -/

variable {k : Res} {t : State} {r : FReg}

/-- Under RM 0 or 1 arithmetic goes on. -/
theorem roundingDefined_of_lt (h : s.rm.toNat < 2) : roundingDefined s k = k := if_neg (by omega)

/-- Arithmetic completes under RM 0 and 1 only. -/
theorem roundingDefined_eq_next : roundingDefined s k = .next t ↔ s.rm.toNat < 2 ∧ k = .next t := by
  unfold roundingDefined
  split <;> simp <;> omega

/-- An instruction that names a pair completes only where the pair exists. -/
theorem pairPresent_eq_next :
    pairPresent s r k = .next t ↔ ¬ (s.cfg.fpuProfile = .basic ∧ pairOdd r = true) ∧ k = .next t := by
  unfold pairPresent
  split
  · next h => simp [h]
  · next h => simp only [h, not_false_eq_true, true_and]

/-- An instruction that uses floating-point cells passes the gate, and completes only under a bank that exists. -/
theorem fpuBanked_of_ready (hf : s.fd = false) (hp : s.cfg.fpuProfile ≠ .none)
    (hb : s.cfg.fpuProfile = .basic → s.frBit = false) : fpuBanked s k = k := by
  rw [fpuBanked, fpuGated_of_on hf hp, if_neg]
  exact fun h => absurd (hb h.1) (by simp [h.2])

end Sys2Proof.Machine
end

