-- ==== Sys2Proof/Tests/Slice0.lean ====
section
/-! SUPPORT. Tests of the model's own: what WellFormed refuses, a word of every constructor decoded, the vectors of
95_test_vectors.md, and for every statement with hypotheses a state and operands that meet them. Expected values are the
spec's, except where a comment says they were computed by hand from a rule. -/

noncomputable section

set_option Elab.async false

namespace Sys2Proof.Tests

open Sys2Proof.Machine Sys2Proof.Safety

/-! ### Helpers -/

/-- Supervisor mode on Bank A, nothing blocked, translation off, the pc in RAM. -/
def base : State := { State.reset with sr := 0x40000000, pc := 0x0C000100 }

/-- The same at another pc. -/
def at_ (pc : Word) : State := { base with pc := pc }

/-- The same on a big-endian machine. -/
def bigEndian : State := { base with cfg := { Config.standard with endian := .big } }

/-- An address in RAM, at which its physical address has the same number. -/
def ram : Word := 0x0C001000

/-- General registers set. -/
def regs (s : State) (l : List (Reg × Word)) : State := l.foldl (fun s p => s.setReg p.1 p.2) s

/-- Floating-point registers set. -/
def fregs (s : State) (l : List (FReg × Word)) : State := l.foldl (fun s p => s.setFr p.1 p.2) s

/-- `base` with a long stored at `ram + off`. -/
def put (off : Nat) (v : Word) : State :=
  { base with mem := memSetList [] (0x0C001000 + off) (bytesOf .little .long v) }

/-- The long at `ram + off`. -/
def long (s : State) (off : Nat) : Word := valueAt s (0x0C001000 + off) .long

/-- The four bytes at `ram + off`. -/
def bytes (s : State) (off : Nat) : List Byte := (List.range 4).map fun k => memGet s.mem (0x0C001000 + off + k)

/-- Where execution goes on, and the target a delay slot ends in. -/
def goesOn (s : State) : Word × Option Word := (s.pc, s.pending.map Pending.target)

/-- R3 differs between the banks. -/
def banks : State :=
  { base with
    bankA := (Vector.replicate 8 (0 : Word)).set 3 0xAAAAAAAA
    bankB := (Vector.replicate 8 (0 : Word)).set 3 0xBBBBBBBB }

/-- The FPU as after reset: single precision, round toward zero. -/
def fp : State := { base with fpscr := 0x00040001 }
/-- Single precision, round to nearest. -/
def fp0 : State := { base with fpscr := 0x00040000 }
/-- Double precision. -/
def fpDouble : State := { base with fpscr := 0x000C0001 }
/-- Double precision, pairs moved. -/
def fpPair : State := { base with fpscr := 0x001C0001 }

/-- What the instruction of two words leaves, when it completes or traps. -/
def run {α : Type} (w0 w1 : Half) (s : State) (f : State → α) : Option α :=
  match decode w0 w1 with
  | .instr i =>
    match exec i s with
    | .next t => some (f t)
    | _ => none
  | _ => none

/-- What one step leaves. -/
def stepped {α : Type} (s : State) (f : State → α) : Option α :=
  match step s with
  | .next t => some (f t)
  | _ => none

/-- Interrupts masked up to level 3, with requests to come. -/
def masked (l : List Event) : State := { base with sr := 0x40000030, events := l }

/-- In the delay slot of a branch at 0C00_00FE. -/
def inSlot : State := { base with pending := some ⟨0x0C000200, 0x0C0000FE, true⟩ }

/-- User mode. -/
def user : State := { base with sr := 0, events := [] }.withFetchWord 16 0x0102

/-- Asleep. -/
def asleep : State := { base with asleep := true }

/-- SR.FD = 1. -/
def fpuOff : State := { base with sr := 0x40008000 }

/-- R2 holds an address in RAM. -/
def inRam : State := regs base [(2, ram)]

/-- R2 holds an address that is not aligned for a long. -/
def odd : State := regs base [(2, ram + 2)]

/-- Pairs in double precision, R2 in RAM. -/
def fpInRam : State := regs fpPair [(2, ram)]

/-- ADD R2, R1 is next, of 2 and 1. -/
def narrow : State := (regs base [(1, 1), (2, 2)]).withFetchWord 16 0x312C

/-- MOV #0x1234, R12 is next. -/
def wide : State := base.withFetchWord 32 0x8E12EC34

/-- Translation on, with a page table of one page. -/
def paged : State :=
  { base with
    mmucr := 1
    ttb := 0x0C001000
    mem := memSetList (memSetList [] 0x0C001000 (bytesOf .little .long 0x0C002110)) 0x0C002000
      (bytesOf .little .long 0x0C003174) }

/-- User mode, pairs moved, R2 at the last long user mode may use, on a platform with memory there. -/
def edge : State :=
  regs { base with
    sr := 0
    fpscr := 0x00140001
    cfg := { Config.standard with regions := [⟨0, 0x1FFFFFFF, .memory⟩] } } [(2, 0x7FFFFFFC)]

/-- The Basic profile, double precision. -/
def basicFpu : State := { fpDouble with cfg := { Config.standard with fpuProfile := .basic } }

/-- The fault a step ends in. -/
def faulted (s : State) : Option Fault :=
  match step s with
  | .fault f => some f
  | _ => none

/-- The refusal a 16-bit instruction ends in. -/
def refused (w0 : Half) (s : State) : Option Refusal :=
  match decode w0 0 with
  | .instr i =>
    match exec i s with
    | .refused r => some r
    | _ => none
  | _ => none

/-- R2 holds the address of INTEVT. -/
def atIntevt : State := regs base [(2, 0xFF000028)]

/-- R2 holds the address after the first long of a device. -/
def atDevice : State := regs base [(2, 0xBE000004)]

/-- R0 holds the address of INTEVT. -/
def casIntevt : State := regs base [(0, 0xFF000028)]

/-- Pairs in double precision, R2 holds the address of PTEH. -/
def pairPteh : State := regs fpPair [(2, 0xFF000000)]

/-- What a long access reaches. -/
def reached (k : AccessKind) (s : State) (va : Word) : Option Place :=
  match resolve k s.md .long va s with
  | .ok p _ => some p
  | _ => none

/-- A read raises an exception. -/
def excCheck (k : AccessKind) (w : Width) (va : Word) (s : State) (e : Exc) : Bool :=
  match resolve k s.md w va s with
  | .exc x _ => x == e
  | _ => false

theorem excCheck_spec {k : AccessKind} {w : Width} {va : Word} {s : State} {e : Exc}
    (h : excCheck k w va s e = true) : ∃ u, resolve k s.md w va s = .exc e u := by
  unfold excCheck at h
  split at h
  · next x u hr => exact ⟨u, by rw [hr, eq_of_beq h]⟩
  · cases h

/-- The second of two long reads alone raises an exception. -/
def secondExcCheck (va : Word) (s : State) (e : Exc) : Bool :=
  match resolve .read s.md .long va s with
  | .ok _ v =>
    match resolve .read s.md .long (va + 4) v with
    | .exc x _ => x == e
    | _ => false
  | _ => false

theorem secondExc_spec {va : Word} {s : State} {e : Exc} (h : secondExcCheck va s e = true) :
    ∃ place v u, resolve .read s.md .long va s = .ok place v ∧ resolve .read s.md .long (va + 4) v = .exc e u := by
  unfold secondExcCheck at h
  split at h
  · next place v hr =>
    split at h
    · next x u hx => exact ⟨place, v, u, hr, by rw [hx, eq_of_beq h]⟩
    · cases h
  · cases h

/-! ### Decoding: a word of every constructor, written from its encoding (30_encoding.md R152 to R154) -/

theorem test_decode_system_16_a :
    decode 0x0502 0 = .instr (.stcSr 5) ∧
    decode 0x0512 0 = .instr (.stcGbr 5) ∧
    decode 0x0522 0 = .instr (.stcVbr 5) ∧
    decode 0x0532 0 = .instr (.stcSsr 5) ∧
    decode 0x0542 0 = .instr (.stcSpc 5) ∧
    decode 0x05A2 0 = .instr (.stcBank 2 5) ∧
    decode 0x05E3 0 = .instr (.icbi 5) ∧
    decode 0x0008 0 = .instr .clrt ∧
    decode 0x0018 0 = .instr .sett ∧
    decode 0x0028 0 = .instr .clrmac ∧
    decode 0x0038 0 = .instr .ldtlb ∧
    decode 0x0048 0 = .instr .clrs ∧
    decode 0x0058 0 = .instr .sets ∧
    decode 0x0068 0 = .instr .nott ∧
    decode 0x0B09 0 = .instr (.nop 0xB) ∧
    decode 0x050A 0 = .instr (.stsMach 5) ∧
    decode 0x051A 0 = .instr (.stsMacl 5) ∧
    decode 0x052A 0 = .instr (.stsPr 5) ∧
    decode 0x053A 0 = .instr (.stcSgr 5) ∧
    decode 0x055A 0 = .instr (.stsFpul 5) ∧
    decode 0x056A 0 = .instr (.stsFpscr 5) ∧
    decode 0x05FA 0 = .instr (.stcDbr 5) :=
  by decide +kernel

theorem test_decode_system_16_b :
    decode 0x001B 0 = .instr .sleep ∧
    decode 0x002B 0 = .instr .rte ∧
    decode 0x003B 0 = .instr .brk ∧
    decode 0x4502 0 = .instr (.stslMach 5) ∧
    decode 0x4512 0 = .instr (.stslMacl 5) ∧
    decode 0x4522 0 = .instr (.stslPr 5) ∧
    decode 0x4532 0 = .instr (.stclSgr 5) ∧
    decode 0x4552 0 = .instr (.stslFpul 5) ∧
    decode 0x4562 0 = .instr (.stslFpscr 5) ∧
    decode 0x45F2 0 = .instr (.stclDbr 5) ∧
    decode 0x4503 0 = .instr (.stclSr 5) ∧
    decode 0x4513 0 = .instr (.stclGbr 5) ∧
    decode 0x4523 0 = .instr (.stclVbr 5) ∧
    decode 0x4533 0 = .instr (.stclSsr 5) ∧
    decode 0x4543 0 = .instr (.stclSpc 5) ∧
    decode 0x45A3 0 = .instr (.stclBank 2 5) ∧
    decode 0x4906 0 = .instr (.ldslMach 9) ∧
    decode 0x4916 0 = .instr (.ldslMacl 9) ∧
    decode 0x4926 0 = .instr (.ldslPr 9) ∧
    decode 0x4936 0 = .instr (.ldclSgr 9) ∧
    decode 0x4956 0 = .instr (.ldslFpul 9) ∧
    decode 0x4966 0 = .instr (.ldslFpscr 9) :=
  by decide +kernel

theorem test_decode_system_16_c :
    decode 0x49F6 0 = .instr (.ldclDbr 9) ∧
    decode 0x4907 0 = .instr (.ldclSr 9) ∧
    decode 0x4917 0 = .instr (.ldclGbr 9) ∧
    decode 0x4927 0 = .instr (.ldclVbr 9) ∧
    decode 0x4937 0 = .instr (.ldclSsr 9) ∧
    decode 0x4947 0 = .instr (.ldclSpc 9) ∧
    decode 0x49A7 0 = .instr (.ldclBank 9 2) ∧
    decode 0x490A 0 = .instr (.ldsMach 9) ∧
    decode 0x491A 0 = .instr (.ldsMacl 9) ∧
    decode 0x492A 0 = .instr (.ldsPr 9) ∧
    decode 0x493A 0 = .instr (.ldcSgr 9) ∧
    decode 0x495A 0 = .instr (.ldsFpul 9) ∧
    decode 0x496A 0 = .instr (.ldsFpscr 9) ∧
    decode 0x49FA 0 = .instr (.ldcDbr 9) ∧
    decode 0x490E 0 = .instr (.ldcSr 9) ∧
    decode 0x491E 0 = .instr (.ldcGbr 9) ∧
    decode 0x492E 0 = .instr (.ldcVbr 9) ∧
    decode 0x493E 0 = .instr (.ldcSsr 9) ∧
    decode 0x494E 0 = .instr (.ldcSpc 9) ∧
    decode 0x49AE 0 = .instr (.ldcBank 9 2) ∧
    decode 0xC3A7 0 = .instr (.trapa 0xA7) :=
  by decide +kernel

theorem test_decode_branch_16 :
    decode 0x0903 0 = .instr (.bsrf 9) ∧
    decode 0x0923 0 = .instr (.braf 9) ∧
    decode 0x000B 0 = .instr .rts ∧
    decode 0x006B 0 = .instr .rtsN ∧
    decode 0x490B 0 = .instr (.jsr 9) ∧
    decode 0x492B 0 = .instr (.jmp 9) ∧
    decode 0x494B 0 = .instr (.jsrN 9) ∧
    decode 0x82A7 0 = .instr (.braN8 0xA7) ∧
    decode 0x89A7 0 = .instr (.bt8 0xA7) ∧
    decode 0x8BA7 0 = .instr (.bf8 0xA7) ∧
    decode 0x8DA7 0 = .instr (.btS8 0xA7) ∧
    decode 0x8FA7 0 = .instr (.bfS8 0xA7) ∧
    decode 0xAB6C 0 = .instr (.bra 0xB6C) ∧
    decode 0xBB6C 0 = .instr (.bsr 0xB6C) :=
  by decide +kernel

theorem test_decode_data_transfer_16_a :
    decode 0x0583 0 = .instr (.pref 5) ∧
    decode 0x05C3 0 = .instr (.movcaL 5) ∧
    decode 0x0594 0 = .instr (.movBStoreR0Idx 9 5) ∧
    decode 0x0595 0 = .instr (.movWStoreR0Idx 9 5) ∧
    decode 0x0596 0 = .instr (.movLStoreR0Idx 9 5) ∧
    decode 0x0529 0 = .instr (.movt 5) ∧
    decode 0x0539 0 = .instr (.movrt 5) ∧
    decode 0x059C 0 = .instr (.movBLoadR0Idx 9 5) ∧
    decode 0x059D 0 = .instr (.movWLoadR0Idx 9 5) ∧
    decode 0x059E 0 = .instr (.movLLoadR0Idx 9 5) ∧
    decode 0x159B 0 = .instr (.movLStoreDisp4 9 5 0xB) ∧
    decode 0x2590 0 = .instr (.movBStoreInd 9 5) ∧
    decode 0x2591 0 = .instr (.movWStoreInd 9 5) ∧
    decode 0x2592 0 = .instr (.movLStoreInd 9 5) ∧
    decode 0x2593 0 = .instr (.casL 9 5) ∧
    decode 0x2594 0 = .instr (.movBStorePreDec 9 5) ∧
    decode 0x2595 0 = .instr (.movWStorePreDec 9 5) ∧
    decode 0x2596 0 = .instr (.movLStorePreDec 9 5) ∧
    decode 0x259D 0 = .instr (.xtrct 9 5) ∧
    decode 0x49C1 0 = .instr (.movBStorePcR0 9) ∧
    decode 0x49D1 0 = .instr (.movWStorePcR0 9) ∧
    decode 0x49E1 0 = .instr (.movLStorePcR0 9) :=
  by decide +kernel

theorem test_decode_data_transfer_16_b :
    decode 0x45C5 0 = .instr (.movBLoadPcR0 5) ∧
    decode 0x45D5 0 = .instr (.movWLoadPcR0 5) ∧
    decode 0x45E5 0 = .instr (.movLLoadPcR0 5) ∧
    decode 0x45F5 0 = .instr (.leaBPcR0 5) ∧
    decode 0x458B 0 = .instr (.movBStoreR0PostInc 5) ∧
    decode 0x459B 0 = .instr (.movWStoreR0PostInc 5) ∧
    decode 0x45AB 0 = .instr (.movLStoreR0PostInc 5) ∧
    decode 0x49CB 0 = .instr (.movBLoadR0PreDec 9) ∧
    decode 0x49DB 0 = .instr (.movWLoadR0PreDec 9) ∧
    decode 0x49EB 0 = .instr (.movLLoadR0PreDec 9) ∧
    decode 0x559B 0 = .instr (.movLLoadDisp4 9 0xB 5) ∧
    decode 0x6590 0 = .instr (.movBLoadInd 9 5) ∧
    decode 0x6591 0 = .instr (.movWLoadInd 9 5) ∧
    decode 0x6592 0 = .instr (.movLLoadInd 9 5) ∧
    decode 0x6593 0 = .instr (.mov 9 5) ∧
    decode 0x6594 0 = .instr (.movBLoadPostInc 9 5) ∧
    decode 0x6595 0 = .instr (.movWLoadPostInc 9 5) ∧
    decode 0x6596 0 = .instr (.movLLoadPostInc 9 5) ∧
    decode 0x6598 0 = .instr (.swapB 9 5) ∧
    decode 0x6599 0 = .instr (.swapW 9 5) ∧
    decode 0x659C 0 = .instr (.extuB 9 5) ∧
    decode 0x659D 0 = .instr (.extuW 9 5) :=
  by decide +kernel

theorem test_decode_data_transfer_16_c :
    decode 0x659E 0 = .instr (.extsB 9 5) ∧
    decode 0x659F 0 = .instr (.extsW 9 5) ∧
    decode 0x805B 0 = .instr (.movBStoreR0Disp4 5 0xB) ∧
    decode 0x815B 0 = .instr (.movWStoreR0Disp4 5 0xB) ∧
    decode 0x849B 0 = .instr (.movBLoadR0Disp4 9 0xB) ∧
    decode 0x859B 0 = .instr (.movWLoadR0Disp4 9 0xB) ∧
    decode 0x95A7 0 = .instr (.movWLoadPcDisp 0xA7 5) ∧
    decode 0xC0A7 0 = .instr (.movBStoreGbr8 0xA7) ∧
    decode 0xC1A7 0 = .instr (.movWStoreGbr8 0xA7) ∧
    decode 0xC2A7 0 = .instr (.movLStoreGbr8 0xA7) ∧
    decode 0xC4A7 0 = .instr (.movBLoadGbr8 0xA7) ∧
    decode 0xC5A7 0 = .instr (.movWLoadGbr8 0xA7) ∧
    decode 0xC6A7 0 = .instr (.movLLoadGbr8 0xA7) ∧
    decode 0xC7A7 0 = .instr (.mova 0xA7) ∧
    decode 0xD5A7 0 = .instr (.movLLoadPcDisp 0xA7 5) ∧
    decode 0xE5A7 0 = .instr (.movImm8 0xA7 5) :=
  by decide +kernel

theorem test_decode_arithmetic_16_a :
    decode 0x0597 0 = .instr (.mulL 9 5) ∧
    decode 0x0019 0 = .instr .div0u ∧
    decode 0x2597 0 = .instr (.div0s 9 5) ∧
    decode 0x259C 0 = .instr (.cmpStr 9 5) ∧
    decode 0x259E 0 = .instr (.muluW 9 5) ∧
    decode 0x259F 0 = .instr (.mulsW 9 5) ∧
    decode 0x3590 0 = .instr (.cmpEq 9 5) ∧
    decode 0x3592 0 = .instr (.cmpHs 9 5) ∧
    decode 0x3593 0 = .instr (.cmpGe 9 5) ∧
    decode 0x3594 0 = .instr (.div1 9 5) ∧
    decode 0x3595 0 = .instr (.dmuluL 9 5) ∧
    decode 0x3596 0 = .instr (.cmpHi 9 5) ∧
    decode 0x3597 0 = .instr (.cmpGt 9 5) ∧
    decode 0x3598 0 = .instr (.sub 9 5) ∧
    decode 0x359A 0 = .instr (.subc 9 5) ∧
    decode 0x359B 0 = .instr (.subv 9 5) ∧
    decode 0x359C 0 = .instr (.add 9 5) ∧
    decode 0x359D 0 = .instr (.dmulsL 9 5) ∧
    decode 0x359E 0 = .instr (.addc 9 5) ∧
    decode 0x359F 0 = .instr (.addv 9 5) ∧
    decode 0x4510 0 = .instr (.dt 5) ∧
    decode 0x4511 0 = .instr (.cmpPz 5) :=
  by decide +kernel

theorem test_decode_arithmetic_16_b :
    decode 0x4515 0 = .instr (.cmpPl 5) ∧
    decode 0x659A 0 = .instr (.negc 9 5) ∧
    decode 0x659B 0 = .instr (.neg 9 5) ∧
    decode 0x75A7 0 = .instr (.addImm8 0xA7 5) ∧
    decode 0x88A7 0 = .instr (.cmpEqImm8 0xA7) :=
  by decide +kernel

theorem test_decode_logic_shift_16_a :
    decode 0x2598 0 = .instr (.tst 9 5) ∧
    decode 0x2599 0 = .instr (.and 9 5) ∧
    decode 0x259A 0 = .instr (.xor 9 5) ∧
    decode 0x259B 0 = .instr (.or 9 5) ∧
    decode 0x4500 0 = .instr (.shll 5) ∧
    decode 0x4520 0 = .instr (.shal 5) ∧
    decode 0x4501 0 = .instr (.shlr 5) ∧
    decode 0x4521 0 = .instr (.shar 5) ∧
    decode 0x4504 0 = .instr (.rotl 5) ∧
    decode 0x4524 0 = .instr (.rotcl 5) ∧
    decode 0x4534 0 = .instr (.shll4 5) ∧
    decode 0x4505 0 = .instr (.rotr 5) ∧
    decode 0x4525 0 = .instr (.rotcr 5) ∧
    decode 0x4535 0 = .instr (.shlr4 5) ∧
    decode 0x4508 0 = .instr (.shll2 5) ∧
    decode 0x4518 0 = .instr (.shll8 5) ∧
    decode 0x4528 0 = .instr (.shll16 5) ∧
    decode 0x4509 0 = .instr (.shlr2 5) ∧
    decode 0x4519 0 = .instr (.shlr8 5) ∧
    decode 0x4529 0 = .instr (.shlr16 5) ∧
    decode 0x459C 0 = .instr (.shad 9 5) ∧
    decode 0x459D 0 = .instr (.shld 9 5) :=
  by decide +kernel

theorem test_decode_logic_shift_16_b :
    decode 0x6597 0 = .instr (.not 9 5) ∧
    decode 0xC8A7 0 = .instr (.tstImm8 0xA7) ∧
    decode 0xC9A7 0 = .instr (.andImm8 0xA7) ∧
    decode 0xCAA7 0 = .instr (.xorImm8 0xA7) ∧
    decode 0xCBA7 0 = .instr (.orImm8 0xA7) :=
  by decide +kernel

theorem test_decode_fpu_16_a :
    decode 0x4561 0 = .instr (.sthf16 5) ∧
    decode 0x4971 0 = .instr (.ldhf16 9) ∧
    decode 0x49B1 0 = .instr (.fmovStorePcR0 9) ∧
    decode 0x45B5 0 = .instr (.fmovLoadPcR0 5) ∧
    decode 0xF590 0 = .instr (.fadd 9 5) ∧
    decode 0xF591 0 = .instr (.fsub 9 5) ∧
    decode 0xF592 0 = .instr (.fmul 9 5) ∧
    decode 0xF593 0 = .instr (.fdiv 9 5) ∧
    decode 0xF594 0 = .instr (.fcmpEq 9 5) ∧
    decode 0xF595 0 = .instr (.fcmpGt 9 5) ∧
    decode 0xF596 0 = .instr (.fmovLoadR0Idx 9 5) ∧
    decode 0xF597 0 = .instr (.fmovStoreR0Idx 9 5) ∧
    decode 0xF598 0 = .instr (.fmovLoadInd 9 5) ∧
    decode 0xF599 0 = .instr (.fmovLoadPostInc 9 5) ∧
    decode 0xF59A 0 = .instr (.fmovStoreInd 9 5) ∧
    decode 0xF59B 0 = .instr (.fmovStorePreDec 9 5) ∧
    decode 0xF59C 0 = .instr (.fmov 9 5) ∧
    decode 0xF50D 0 = .instr (.fsts 5) ∧
    decode 0xF91D 0 = .instr (.flds 9) ∧
    decode 0xF52D 0 = .instr (.float 5) ∧
    decode 0xF93D 0 = .instr (.ftrc 9) ∧
    decode 0xF54D 0 = .instr (.fneg 5) :=
  by decide +kernel

theorem test_decode_fpu_16_b :
    decode 0xF55D 0 = .instr (.fabs 5) ∧
    decode 0xF56D 0 = .instr (.fsqrt 5) ∧
    decode 0xF58D 0 = .instr (.fldi0 5) ∧
    decode 0xF59D 0 = .instr (.fldi1 5) ∧
    decode 0xF5AD 0 = .instr (.fcnvsd 5) ∧
    decode 0xF9BD 0 = .instr (.fcnvds 9) ∧
    decode 0xFBDD 0 = .instr (.psetmd 0xB) ∧
    decode 0xF3FD 0 = .instr .fschg ∧
    decode 0xF7FD 0 = .instr .fpchg ∧
    decode 0xFBFD 0 = .instr .frchg ∧
    decode 0xF59E 0 = .instr (.fmac 9 5) :=
  by decide +kernel

theorem test_decode_data_transfer_32_a :
    decode 0x8A9D 0x4EB6 = .instr (.movi24 0x9D4EB6) ∧
    decode 0x8E3B 0x0594 = .instr (.movBStoreIdx4 9 5 3 0xB) ∧
    decode 0x8E3B 0x0595 = .instr (.movWStoreIdx4 9 5 3 0xB) ∧
    decode 0x8E3B 0x0596 = .instr (.movLStoreIdx4 9 5 3 0xB) ∧
    decode 0x8E3B 0x059C = .instr (.movBLoadIdx4 9 3 0xB 5) ∧
    decode 0x8E3B 0x059D = .instr (.movWLoadIdx4 9 3 0xB 5) ∧
    decode 0x8E3B 0x059E = .instr (.movLLoadIdx4 9 3 0xB 5) ∧
    decode 0x8EA7 0x1593 = .instr (.movLStoreIdx8 9 5 3 0xA7) ∧
    decode 0x8EA7 0x2590 = .instr (.movBStoreDisp8 9 5 0xA7) ∧
    decode 0x8EA7 0x2591 = .instr (.movWStoreDisp8 9 5 0xA7) ∧
    decode 0x8EA7 0x2592 = .instr (.movLStoreDisp8 9 5 0xA7) ∧
    decode 0x8E93 0x450E = .instr (.movuBLoadIdx 9 3 5) ∧
    decode 0x8E93 0x451E = .instr (.movuWLoadIdx 9 3 5) ∧
    decode 0x8EA7 0x5593 = .instr (.movLLoadIdx8 9 3 0xA7 5) ∧
    decode 0x8EA7 0x6590 = .instr (.movBLoadDisp8 9 0xA7 5) ∧
    decode 0x8EA7 0x6591 = .instr (.movWLoadDisp8 9 0xA7 5) ∧
    decode 0x8EA7 0x6592 = .instr (.movLLoadDisp8 9 0xA7 5) ∧
    decode 0x8E3B 0x6594 = .instr (.leaBIdx4 9 3 0xB 5) ∧
    decode 0x8E3B 0x6595 = .instr (.leaWIdx4 9 3 0xB 5) ∧
    decode 0x8E3B 0x6596 = .instr (.leaLIdx4 9 3 0xB 5) ∧
    decode 0x8E3B 0x6597 = .instr (.leaQIdx4 9 3 0xB 5) ∧
    decode 0x8EA7 0x6598 = .instr (.leaBDisp8 9 0xA7 5) :=
  by decide +kernel

theorem test_decode_data_transfer_32_b :
    decode 0x8EA7 0x6599 = .instr (.leaWDisp8 9 0xA7 5) ∧
    decode 0x8EA7 0x659A = .instr (.leaLDisp8 9 0xA7 5) ∧
    decode 0x8EA7 0x659B = .instr (.leaQDisp8 9 0xA7 5) ∧
    decode 0x8EA7 0x659C = .instr (.movuBLoadDisp8 9 0xA7 5) ∧
    decode 0x8EA7 0x659D = .instr (.movuWLoadDisp8 9 0xA7 5) ∧
    decode 0x8E9D 0x954E = .instr (.ldsh16 0x9D4E 5) ∧
    decode 0x8EB6 0xC09C = .instr (.movBStoreGbr12 9 0xB6C) ∧
    decode 0x8EB6 0xC19C = .instr (.movWStoreGbr12 9 0xB6C) ∧
    decode 0x8EB6 0xC29C = .instr (.movLStoreGbr12 9 0xB6C) ∧
    decode 0x8EB6 0xC45C = .instr (.movBLoadGbr12 0xB6C 5) ∧
    decode 0x8EB6 0xC55C = .instr (.movWLoadGbr12 0xB6C 5) ∧
    decode 0x8EB6 0xC65C = .instr (.movLLoadGbr12 0xB6C 5) ∧
    decode 0x8E9D 0xE54E = .instr (.movImm16 0x9D4E 5) :=
  by decide +kernel

theorem test_decode_fpu_32 :
    decode 0x8EA7 0x2594 = .instr (.fmovStoreDisp8 9 5 0xA7) ∧
    decode 0x8EA7 0x2596 = .instr (.fmovLoadDisp8 9 0xA7 5) ∧
    decode 0x8E6C 0x45C3 = .instr (.fadd3 6 12 5) ∧
    decode 0x8E6C 0x45D3 = .instr (.fsub3 6 12 5) ∧
    decode 0x8E6C 0x45E3 = .instr (.fmul3 6 12 5) ∧
    decode 0x8E6C 0x45F3 = .instr (.fdiv3 6 12 5) ∧
    decode 0x8E93 0x452E = .instr (.fmovLoadIdx 9 3 5) ∧
    decode 0x8E93 0x453E = .instr (.fmovStoreIdx 9 5 3) ∧
    decode 0x8E9D 0x8A4E = .instr (.ldhf16Imm 0x9D4E) ∧
    decode 0x8E9D 0x8C4E = .instr (.ldif16 0x9D4E) :=
  by decide +kernel

theorem test_decode_logic_shift_32 :
    decode 0x8EA7 0x2599 = .instr (.and3Imm8 9 0xA7 5) ∧
    decode 0x8EA7 0x259A = .instr (.xor3Imm8 9 0xA7 5) ∧
    decode 0x8EA7 0x259B = .instr (.or3Imm8 9 0xA7 5) ∧
    decode 0x8EA7 0x3599 = .instr (.and3NegImm8 9 0xA7 5) ∧
    decode 0x8E6C 0x4533 = .instr (.and3 6 12 5) ∧
    decode 0x8E6C 0x4543 = .instr (.or3 6 12 5) ∧
    decode 0x8E6C 0x4553 = .instr (.xor3 6 12 5) ∧
    decode 0x8E6C 0x4563 = .instr (.shld3 6 12 5) ∧
    decode 0x8E6C 0x4573 = .instr (.shlr3 6 12 5) ∧
    decode 0x8E6C 0x4583 = .instr (.shad3 6 12 5) ∧
    decode 0x8E6C 0x4593 = .instr (.shar3 6 12 5) ∧
    decode 0x8EA7 0x459C = .instr (.shad3Imm8 9 0xA7 5) ∧
    decode 0x8EA7 0x459D = .instr (.shld3Imm8 9 0xA7 5) ∧
    decode 0x8EB6 0xC85C = .instr (.tstImm12 0xB6C 5) ∧
    decode 0x8EB6 0xC95C = .instr (.andImm12 0xB6C 5) ∧
    decode 0x8EB6 0xCA5C = .instr (.xorImm12 0xB6C 5) ∧
    decode 0x8EB6 0xCB5C = .instr (.orImm12 0xB6C 5) :=
  by decide +kernel

theorem test_decode_arithmetic_32 :
    decode 0x8EA7 0x259E = .instr (.mul3Imm8 9 0xA7 5) ∧
    decode 0x8EA7 0x259F = .instr (.mul3NegImm8 9 0xA7 5) ∧
    decode 0x8EB6 0x35C0 = .instr (.cmpEqImm12 0xB6C 5) ∧
    decode 0x8EB6 0x35C2 = .instr (.cmpHsImm12 0xB6C 5) ∧
    decode 0x8EB6 0x35C3 = .instr (.cmpGeImm12 0xB6C 5) ∧
    decode 0x8EB6 0x35C6 = .instr (.cmpHiImm12 0xB6C 5) ∧
    decode 0x8EB6 0x35C7 = .instr (.cmpGtImm12 0xB6C 5) ∧
    decode 0x8EA7 0x3598 = .instr (.sub3Imm8 9 0xA7 5) ∧
    decode 0x8EA7 0x359C = .instr (.add3Imm8 9 0xA7 5) ∧
    decode 0x8E6C 0x4503 = .instr (.add3 6 12 5) ∧
    decode 0x8E6C 0x4513 = .instr (.sub3 6 12 5) ∧
    decode 0x8E6C 0x4523 = .instr (.mul3 6 12 5) ∧
    decode 0x8E6C 0x45A3 = .instr (.cselt 6 12 5) ∧
    decode 0x8E9D 0x754E = .instr (.addImm16 0x9D4E 5) ∧
    decode 0x8E9D 0x884E = .instr (.cmpEqImm16 0x9D4E) :=
  by decide +kernel

theorem test_decode_branch_32 :
    decode 0x8E9D 0x824E = .instr (.braN16 0x9D4E) ∧
    decode 0x8E9D 0x834E = .instr (.bsrN16 0x9D4E) ∧
    decode 0x8E9D 0x894E = .instr (.bt16 0x9D4E) ∧
    decode 0x8E9D 0x8B4E = .instr (.bf16 0x9D4E) ∧
    decode 0x8E9D 0x8D4E = .instr (.btS16 0x9D4E) ∧
    decode 0x8E9D 0x8F4E = .instr (.bfS16 0x9D4E) :=
  by decide +kernel

/-! ### Instructions: the vectors of 95_test_vectors.md Parts 1 to 3 -/

theorem test_move_extend :
    run 0x612E 0 (regs base [(2, 0x80)]) (·.reg 1) = some 0xFFFFFF80 ∧
    run 0x612F 0 (regs base [(2, 0x12348000)]) (·.reg 1) = some 0xFFFF8000 ∧
    run 0x612C 0 (regs base [(2, 0xFFFFFF80)]) (·.reg 1) = some 0x80 ∧
    run 0x612D 0 (regs base [(2, 0xFFFF8000)]) (·.reg 1) = some 0x8000 ∧
    run 0xE1FF 0 base (·.reg 1) = some 0xFFFFFFFF ∧
    run 0x8E12 0xEC34 base (fun t => (t.reg 12, t.pc)) = some (0x1234, 0x0C000104) ∧
    run 0x8E87 0x9165 (regs base [(1, 0x1235)]) (·.reg 1) = some 0x12348765 ∧
    run 0x8A80 0x0000 base (·.reg 0) = some 0xFF800000 ∧
    run 0x6128 0 (regs base [(2, 0x12345678)]) (·.reg 1) = some 0x12347856 ∧
    run 0x6129 0 (regs base [(2, 0x12345678)]) (·.reg 1) = some 0x56781234 ∧
    run 0x212D 0 (regs base [(1, 0x89ABCDEF), (2, 0x01234567)]) (·.reg 1) = some 0x456789AB ∧
    run 0x0139 0 (base.setT true) (·.reg 1) = some 0 := by decide +kernel

theorem test_address_results :
    run 0xC702 0 base (·.reg 0) = some 0x0C00010C ∧
    run 0xC700 0 { base with pc := 0x0C000102 } (·.reg 0) = some 0x0C000104 ∧
    run 0x41F5 0 (regs base [(0, 0x30)]) (·.reg 1) = some 0x0C000134 ∧
    run 0x8E32 0x6126 (regs base [(2, 0x1000), (3, 5)]) (·.reg 1) = some 0x101C ∧
    run 0x8E30 0x6127 (regs base [(2, 0x1000), (3, 5)]) (·.reg 1) = some 0x1028 ∧
    run 0x8EFF 0x612A (regs base [(2, 0x1000)]) (·.reg 1) = some 0x0FFC ∧
    run 0x8E80 0x612B (regs base [(2, 0x1000)]) (·.reg 1) = some 0x0C00 := by decide +kernel

theorem test_stores :
    run 0x2120 0 (regs base [(1, ram), (2, 0x12345678)]) (bytes · 0) = some [0x78, 0, 0, 0] ∧
    run 0x2122 0 (regs base [(1, ram), (2, 0x11223344)]) (bytes · 0) = some [0x44, 0x33, 0x22, 0x11] ∧
    run 0x2122 0 (regs bigEndian [(1, ram), (2, 0x11223344)]) (bytes · 0) = some [0x11, 0x22, 0x33, 0x44] ∧
    run 0x2F15 0 (regs base [(15, ram + 4), (1, 0x1234)]) (fun t => (bytes t 0, t.reg 15)) =
      some ([0, 0, 0x34, 0x12], ram + 2) ∧
    run 0x2116 0 (regs base [(1, ram + 4)]) (fun t => (long t 0, t.reg 1)) = some (ram + 4, ram) ∧
    run 0x0126 0 (regs base [(0, 4), (1, ram), (2, 0xCAFEF00D)]) (long · 4) = some 0xCAFEF00D ∧
    run 0x1F13 0 (regs base [(15, ram), (1, 7)]) (long · 12) = some 7 ∧
    run 0x8113 0 (regs base [(1, ram), (0, 0x4142)]) (bytes · 6) = some [0x42, 0x41, 0, 0] ∧
    run 0x42E1 0 { regs base [(0, 0xEFC), (2, 9)] with pc := 0x0C000102 } (long · 0) = some 9 ∧
    run 0x41AB 0 (regs base [(1, ram), (0, 6)]) (fun t => (long t 0, t.reg 1)) = some (6, ram + 4) ∧
    run 0x01C3 0 (regs base [(1, ram), (0, 0x11223344)]) (long · 0) = some 0x11223344 ∧
    run 0xC204 0 (regs { base with gbr := ram } [(0, 0xAABBCCDD)]) (long · 16) = some 0xAABBCCDD := by decide +kernel

theorem test_stores_wide :
    run 0x8E31 0x0126 (regs base [(1, ram), (3, 2), (2, 0x600DF00D)]) (long · 12) = some 0x600DF00D ∧
    run 0x8E01 0x0126 (regs base [(1, ram), (0, 8), (2, 1)]) (fun t => (t.expevt, t.tea)) = some (0x100, ram + 9) ∧
    run 0x8EFE 0x2F12 (regs base [(15, ram + 8), (1, 5)]) (long · 0) = some 5 ∧
    run 0x8E12 0xC253 (regs { base with gbr := ram } [(5, 3)]) (long · 0x48C) = some 3 := by decide +kernel

theorem test_loads :
    run 0x012C 0 (regs (put 1 0xF0) [(0, 1), (2, ram)]) (·.reg 1) = some 0xFFFFFFF0 ∧
    run 0x6121 0 (regs (put 0 0xFFFE) [(2, ram)]) (·.reg 1) = some 0xFFFFFFFE ∧
    run 0x6122 0 (regs (put 0 0x89ABCDEF) [(2, ram)]) (·.reg 1) = some 0x89ABCDEF ∧
    run 0x61F6 0 (regs (put 0 0xDEADBEEF) [(15, ram)]) (fun t => (t.reg 1, t.reg 15)) = some (0xDEADBEEF, ram + 4) ∧
    run 0x6114 0 (regs (put 0 0x80) [(1, ram)]) (·.reg 1) = some 0xFFFFFF80 ∧
    run 0x8513 0 (regs (put 6 0x7FFF) [(1, ram)]) (·.reg 0) = some 0x7FFF ∧
    run 0x41DB 0 (regs (put 0 0x1234) [(1, ram + 2)]) (fun t => (t.reg 0, t.reg 1)) = some (0x1234, ram) ∧
    run 0x9102 0 { put 8 0x8000 with pc := ram } (·.reg 1) = some 0xFFFF8000 ∧
    run 0xD101 0 { put 8 0xCAFEBABE with pc := ram + 2 } (·.reg 1) = some 0xCAFEBABE ∧
    run 0x41D5 0 (regs { put 0x14 0x8001 with pc := ram } [(0, 0x10)]) (·.reg 1) = some 0xFFFF8001 ∧
    run 0xC5FF 0 { put 0x1FE 0xFFFF with gbr := ram } (·.reg 0) = some 0xFFFFFFFF := by decide +kernel

theorem test_loads_wide :
    run 0x8E30 0x012D (regs (put 6 0xFFF0) [(2, ram), (3, 3)]) (·.reg 1) = some 0xFFFFFFF0 ∧
    run 0x8EFF 0x5123 (regs (put 12 0x77) [(2, ram), (3, 4)]) (·.reg 1) = some 0x77 ∧
    run 0x8E23 0x410E (regs (put 5 0xF0) [(2, ram), (3, 5)]) (·.reg 1) = some 0xF0 ∧
    run 0x8E23 0x411E (regs (put 10 0x8001) [(2, ram), (3, 5)]) (·.reg 1) = some 0x8001 ∧
    run 0x8E10 0x6122 (regs (put 0x40 0x99) [(2, ram)]) (·.reg 1) = some 0x99 ∧
    run 0x8EFF 0x612C (regs (put 0 0x80) [(2, ram + 1)]) (·.reg 1) = some 0x80 ∧
    run 0x8EFF 0xC61F { put 0x3FFC 0x55 with gbr := ram } (·.reg 1) = some 0x55 := by decide +kernel

theorem test_compare_and_swap :
    run 0x2123 0 (regs (put 0 5) [(0, ram), (2, 5), (1, 9)]) (fun t => (long t 0, t.reg 1, t.t)) = some (9, 5, true) ∧
    run 0x2123 0 (regs (put 0 5) [(0, ram), (2, 4), (1, 9)]) (fun t => (long t 0, t.reg 1, t.t)) = some (5, 5, false) :=
  by decide +kernel

theorem test_add_subtract :
    run 0x312C 0 (regs base [(1, 0xFFFFFFFF), (2, 2)]) (fun t => (t.reg 1, t.t)) = some (1, false) ∧
    run 0x8E80 0x7100 base (·.reg 1) = some 0xFFFF8000 ∧
    run 0x8EFF 0x312C (regs base [(2, 1)]) (·.reg 1) = some 0x100 ∧
    run 0x8E23 0x4103 (regs base [(2, 5), (3, 7)]) (·.reg 1) = some 12 ∧
    run 0x312E 0 (regs (base.setT true) [(1, 0xFFFFFFFF), (2, 0xFFFFFFFF)]) (fun t => (t.reg 1, t.t)) =
      some (0xFFFFFFFF, true) ∧
    run 0x612A 0 (regs base [(2, 1)]) (fun t => (t.reg 1, t.t)) = some (0xFFFFFFFF, true) ∧
    run 0x612A 0 base (fun t => (t.reg 1, t.t)) = some (0, false) ∧
    run 0x8EFF 0x3128 (regs base [(2, 0x100)]) (·.reg 1) = some 1 ∧
    run 0x8E23 0x4113 (regs base [(2, 5), (3, 7)]) (·.reg 1) = some 0xFFFFFFFE ∧
    run 0x4110 0 (regs base [(1, 1)]) (fun t => (t.reg 1, t.t)) = some (0, true) := by decide +kernel

theorem test_compare :
    run 0x88FF 0 (regs base [(0, 0xFF)]) (·.t) = some false ∧
    run 0x8EFF 0x31F0 (regs base [(1, 0xFFFFFFFF)]) (·.t) = some true ∧
    run 0x3123 0 (regs base [(1, 0x80000000), (2, 0x7FFFFFFF)]) (·.t) = some false ∧
    run 0x8E80 0x3103 (regs base [(1, 0xFFFFF800)]) (·.t) = some true ∧
    run 0x3127 0 (regs base [(1, 1), (2, 0xFFFFFFFF)]) (·.t) = some true ∧
    run 0x8EFF 0x31F6 (regs base [(1, 0xFFFFFFFE)]) (·.t) = some false ∧
    run 0x3122 0 (regs base [(1, 0x80000000), (2, 0x7FFFFFFF)]) (·.t) = some true ∧
    run 0x8E10 0x3102 (regs base [(1, 0x100)]) (·.t) = some true ∧
    run 0x4115 0 (regs base [(1, 0x80000000)]) (·.t) = some false ∧
    run 0x212C 0 (regs base [(1, 0x11223344), (2, 0xAA22BBCC)]) (·.t) = some true ∧
    run 0x212C 0 (regs base [(1, 0x11223344), (2, 0x44332211)]) (·.t) = some false ∧
    run 0x8E23 0x41A3 (regs base [(2, 0xAAAA), (3, 0xBBBB)]) (·.reg 1) = some 0xBBBB := by decide +kernel

theorem test_multiply :
    run 0x312D 0 (regs base [(1, 0xFFFFFFFE), (2, 3)]) (fun t => (t.mach, t.macl)) = some (0xFFFFFFFF, 0xFFFFFFFA) ∧
    run 0x3125 0 (regs base [(1, 0xFFFFFFFF), (2, 0xFFFFFFFF)]) (fun t => (t.mach, t.macl)) = some (0xFFFFFFFE, 1) ∧
    run 0x8EFE 0x212F (regs base [(2, 7)]) (·.reg 1) = some 0xFFFFFFF2 ∧
    run 0x8E0A 0x212E (regs base [(2, 7)]) (·.reg 1) = some 70 ∧
    run 0x212F 0 (regs base [(1, 0x12348000), (2, 0x12348000)]) (·.macl) = some 0x40000000 ∧
    run 0x212E 0 (regs base [(1, 0xABCDFFFF), (2, 0xABCDFFFF)]) (·.macl) = some 0xFFFE0001 := by decide +kernel

theorem test_divide :
    run 0x2127 0 (regs base [(1, 0x80000000), (2, 1)]) (fun t => (t.q, t.m, t.t)) = some (true, false, true) ∧
    run 0x3124 0 (regs base [(1, 0x64), (2, 0x70000)]) (fun t => (t.reg 1, t.q, t.t)) = some (0xFFF900C8, true, false) ∧
    run 0x3124 0 (regs (base.setT true) [(1, 0x80000000), (2, 1)]) (fun t => (t.reg 1, t.q, t.t)) =
      some (0, true, false) := by decide +kernel

theorem test_logic :
    run 0x8EFF 0xC910 (regs base [(1, 0x12345678)]) (·.reg 1) = some 0x12345670 ∧
    run 0x8EF0 0x3129 (regs base [(2, 0x12345678)]) (·.reg 1) = some 0x12345670 ∧
    run 0x8E80 0xCB10 base (·.reg 1) = some 0x800 ∧
    run 0x8E80 0xCB10 { base with cfg := { Config.standard with imm12OrSigned := true } } (·.reg 1) = some 0xFFFFF800 ∧
    run 0x2128 0 (regs base [(1, 0xF0), (2, 0x0F)]) (·.t) = some true ∧
    run 0x8E80 0xC810 (regs base [(1, 0x10000)]) (·.t) = some false ∧
    run 0x8E80 0xC810 (regs { base with cfg := { Config.standard with imm12TstSigned := false } } [(1, 0x10000)]) (·.t) =
      some true ∧
    run 0x8EFF 0xCA1F base (·.reg 1) = some 0xFFF ∧
    run 0x8E23 0x4153 (regs base [(2, 0xFF00), (3, 0x0FF0)]) (·.reg 1) = some 0xF0F0 ∧
    run 0x6127 0 (regs base [(2, 0x0F0F0F0F)]) (·.reg 1) = some 0xF0F0F0F0 := by decide +kernel

theorem test_shift :
    run 0x4124 0 (regs (base.setT true) [(1, 1)]) (fun t => (t.reg 1, t.t)) = some (3, false) ∧
    run 0x4125 0 (regs (base.setT true) [(1, 2)]) (fun t => (t.reg 1, t.t)) = some (0x80000001, false) ∧
    run 0x4105 0 (regs base [(1, 0x80000001)]) (fun t => (t.reg 1, t.t)) = some (0xC0000000, true) ∧
    run 0x412C 0 (regs base [(1, 0xF2345678), (2, 0xFFFFFFFC)]) (·.reg 1) = some 0xFF234567 ∧
    run 0x412C 0 (regs base [(1, 0x80000001), (2, 0xFFFFFFE0)]) (·.reg 1) = some 0xFFFFFFFF ∧
    run 0x4121 0 (regs base [(1, 0x80000001)]) (fun t => (t.reg 1, t.t)) = some (0xC0000000, true) ∧
    run 0x412D 0 (regs base [(1, 0x80000001), (2, 33)]) (·.reg 1) = some 2 ∧
    run 0x412D 0 (regs base [(1, 0x80000001), (2, 0xFFFFFFE0)]) (·.reg 1) = some 0 ∧
    run 0x4134 0 (regs base [(1, 0x12345678)]) (·.reg 1) = some 0x23456780 ∧
    run 0x8EFC 0x412C (regs base [(2, 0xF2345678)]) (·.reg 1) = some 0xFF234567 ∧
    run 0x8E23 0x4173 (regs base [(2, 0x80000000), (3, 32)]) (·.reg 1) = some 0 ∧
    run 0x8E23 0x4193 (regs base [(2, 0x80000000), (3, 32)]) (·.reg 1) = some 0xFFFFFFFF ∧
    run 0x8E23 0x4193 (regs base [(2, 0x80000000), (3, 0xFFFFFFFF)]) (·.reg 1) = some 0 := by decide +kernel

theorem test_branch :
    run 0x8B02 0 (at_ 0x1000) goesOn = some (0x1008, none) ∧
    run 0x8E00 0x8B10 (at_ 0x2000) goesOn = some (0x2026, none) ∧
    run 0x8FFC 0 (at_ 0x1008) goesOn = some (0x100A, some 0x1004) ∧
    run 0x8FFC 0 ((at_ 0x1008).setT true) goesOn = some (0x100A, some 0x100C) ∧
    run 0x8EFF 0x8FFC (at_ 0x2000) goesOn = some (0x2004, some 0x1FFE) ∧
    run 0x8EFF 0x89FC ((at_ 0x2000).setT true) goesOn = some (0x1FFE, none) ∧
    run 0xA800 0 (at_ 0x2000) goesOn = some (0x2002, some 0x1004) := by decide +kernel

theorem test_branch_call :
    run 0x82FE 0 (at_ 0x1000) goesOn = some (0x1000, none) ∧
    run 0x8E01 0x8200 (at_ 0x1000) goesOn = some (0x1206, none) ∧
    run 0x0123 0 (regs (at_ 0x1000) [(1, 0xFFFFFFFC)]) goesOn = some (0x1002, some 0x1000) ∧
    run 0x8E00 0x8310 (at_ 0x0C000000) (fun t => (goesOn t, t.pr)) = some ((0x0C000026, none), 0x0C000004) ∧
    run 0xB004 0 (at_ 0x1000) (fun t => (goesOn t, t.pr)) = some ((0x1002, some 0x100C), 0x1004) ∧
    run 0x414B 0 (regs (at_ 0x1000) [(1, 0x0C003000)]) (fun t => (goesOn t, t.pr)) = some ((0x0C003000, none), 0x1002) ∧
    run 0x000B 0 { at_ 0x0C003010 with pr := 0x1004 } goesOn = some (0x0C003012, some 0x1004) := by decide +kernel

theorem test_system_registers :
    run 0x4F22 0 (regs { base with pr := 7 } [(15, ram + 4)]) (fun t => (long t 0, t.reg 15)) = some (7, ram) ∧
    run 0x416A 0 (regs base [(1, 0x00080000)]) (·.fpscr) = some 0x00080000 ∧
    run 0x4F26 0 (regs (put 0 0x0C001004) [(15, ram)]) (fun t => (t.pr, t.reg 15)) = some (0x0C001004, ram + 4) ∧
    run 0x410E 0 (regs base [(1, 0xFFFFFFFF)]) (·.sr) = some 0x700083F3 ∧
    run 0x01B2 0 { banks with sr := 0x70000000 } (·.reg 1) = some 0xAAAAAAAA ∧
    run 0x6133 0 { banks with sr := 0x70000000 } (·.reg 1) = some 0xBBBBBBBB ∧
    run 0x6133 0 { banks with sr := 0x20000000 } (·.reg 1) = some 0xAAAAAAAA ∧
    run 0x41AE 0 (regs base [(1, 6)]) (·.bankB[2]) = some 6 ∧
    run 0x0122 0 { base with sr := 0 } (·.expevt) = some 0x180 := by decide +kernel

theorem test_traps :
    run 0xC320 0 { regs base [(15, 0x0C002000)] with sr := 0, vbr := 0x0C000000 }
        (fun t => [t.traevt, t.expevt, t.spc, t.ssr, t.sgr, t.sr, t.pc]) =
      some [0x80, 0x160, 0x0C000102, 0, 0x0C002000, 0x70000000, 0x0C000100] ∧
    run 0x003B 0 base (fun t => [t.expevt, t.spc, t.pc]) = some [0x1E0, 0x0C000100, 0x100] ∧
    run 0x6122 0 (regs base [(2, ram + 2), (15, 0x0C00FF00)])
        (fun t => [t.expevt, t.tea, t.spc, t.ssr, t.sgr, t.sr, t.pc, t.reg 1]) =
      some [0x0E0, ram + 2, 0x0C000100, 0x40000000, 0x0C00FF00, 0x70000000, 0x100, 0] ∧
    run 0x2126 0 (regs base [(1, ram + 2)]) (fun t => (t.tea, t.bankA[1])) = some (ram - 2, ram + 2) ∧
    run 0x6122 0 (regs { base with sr := 0 } [(2, 0x8C001000)]) (·.tea) = some 0x8C001000 ∧
    run 0x002B 0 { base with spc := 0x0C001234, ssr := 1, sgr := 0x0C00FF00 }
        (fun t => (t.sr, t.reg 15, goesOn t)) = some (1, 0x0C00FF00, (0x0C000102, some 0x0C001234)) := by decide +kernel

/-! ### Floating point -/

theorem test_fp_arithmetic :
    run 0xF120 0 (fregs fp [(1, 0x3F800000), (2, 0x40000000)]) (·.fr 1) = some 0x40400000 ∧
    run 0xF120 0 (fregs fp0 [(1, 0x3DCCCCCD), (2, 0x3E4CCCCD)]) (·.fr 1) = some 0x3E99999A ∧
    run 0xF120 0 (fregs fp [(1, 0x3DCCCCCD), (2, 0x3E4CCCCD)]) (·.fr 1) = some 0x3E999999 ∧
    run 0xF020 0 (fregs fpDouble [(0, 0x3FF00000), (2, 0x40000000)]) (fun t => (t.fr 0, t.fr 1)) = some (0x40080000, 0) ∧
    run 0xF121 0 (fregs fp [(1, 0x40400000), (2, 0x3F800000)]) (·.fr 1) = some 0x40000000 ∧
    run 0xF122 0 (fregs fp [(1, 0x3FC00000), (2, 0x40200000)]) (·.fr 1) = some 0x40700000 ∧
    run 0xF123 0 (fregs fp0 [(1, 0x3F800000), (2, 0x40400000)]) (·.fr 1) = some 0x3EAAAAAB ∧
    run 0xF123 0 (fregs fp [(1, 0x3F800000), (2, 0x40400000)]) (·.fr 1) = some 0x3EAAAAAA ∧
    run 0xF16D 0 (fregs fp [(1, 0x40000000)]) (·.fr 1) = some 0x3FB504F3 ∧
    run 0xF12E 0 (fregs fp [(0, 0x40000000), (2, 0x40400000), (1, 0x3F800000)]) (·.fr 1) = some 0x40E00000 ∧
    run 0x8E23 0x41D3 (fregs fp [(2, 0x3F800000), (3, 0x40000000)]) (·.fr 1) = some 0xBF800000 := by decide +kernel

theorem test_fp_compare_convert :
    run 0xF124 0 (fregs fp [(1, 0), (2, 0x80000000)]) (·.t) = some true ∧
    run 0xF125 0 (fregs fp [(1, 0xBF800000), (2, 0xC0000000)]) (·.t) = some true ∧
    run 0xF12D 0 { fp0 with fpul := 0x01000003 } (·.fr 1) = some 0x4B800002 ∧
    run 0xF12D 0 { fp with fpul := 0x7FFFFFFF } (·.fr 1) = some 0x4EFFFFFF ∧
    run 0xF02D 0 { fpDouble with fpul := 0x01000003 } (fun t => (t.fr 0, t.fr 1)) = some (0x41700000, 0x30000000) ∧
    run 0xF13D 0 (fregs fp [(1, 0xC0700000)]) (·.fpul) = some 0xFFFFFFFD ∧
    run 0xF13D 0 (fregs fp [(1, 0xCF000000)]) (·.fpul) = some 0x80000000 ∧
    run 0xF0AD 0 { fpDouble with fpul := 0x3EAAAAAB } (fun t => (t.fr 0, t.fr 1)) = some (0x3FD55555, 0x60000000) ∧
    run 0xF0BD 0 (fregs fpDouble [(0, 0x3FD55555), (1, 0x55555555)]) (·.fpul) = some 0x3EAAAAAA := by decide +kernel

theorem test_fp_half :
    run 0x8EC5 0x8A00 fp (·.fpul) = some 0xC0A00000 ∧
    run 0x8E35 0x8A55 fp (·.fpul) = some 0x3EAAA000 ∧
    run 0x4171 0 (regs fp [(1, 0x8000)]) (·.fpul) = some 0x80000000 ∧
    run 0x4171 0 (regs fp [(1, 0x7C00)]) (·.fpul) = some 0x7F800000 ∧
    run 0x8EC2 0x8C48 fp (·.fpul) = some 0xC2480000 ∧
    run 0x4161 0 { fp with fpul := 0xC0A00000 } (·.reg 1) = some 0xC500 ∧
    run 0x4161 0 { fp with fpul := 0xC7800000 } (·.reg 1) = some 0xFC00 ∧
    run 0x4161 0 { fp with fpul := 0x38000000 } (·.reg 1) = some 0 := by decide +kernel

theorem test_fp_move_mode :
    run 0xF13C 0 { fregs fp [(2, 5)] with fpscr := 0x00100001, fb := (Vector.replicate 16 (0 : Word)).set 2 8 }
      (·.fb[0]) = some 8 ∧
    run 0xF128 0 (regs (put 0 0x3F800000) [(2, ram)]) (·.fr 1) = some 0x3F800000 ∧
    run 0xF12A 0 (regs (fregs fpPair [(2, 0x3FF00000)]) [(1, ram)]) (fun t => (long t 0, long t 4)) =
      some (0, 0x3FF00000) ∧
    run 0x8EFF 0x2124 (regs (fregs fp [(2, 0x3F800000)]) [(1, ram + 4)]) (long · 0) = some 0x3F800000 ∧
    run 0x8E20 0x413E (regs (fregs fp [(2, 1)]) [(1, ram), (0, 6)]) (fun t => (t.expevt, t.tea)) = some (0x100, ram + 6) ∧
    run 0xFCDD 0 fp (·.fpscr) = some 0x001C0001 ∧
    run 0xF2DD 0 fp (·.fpscr) = some 0 ∧
    run 0xFBFD 0 fp (·.fpscr) = some 0x00240001 := by decide +kernel

/-! ### Steps -/

theorem test_table_words :
    decodeTableWord 16 0x312C = some (.add 2 1) ∧ decodeTableWord 32 0x8E12EC34 = some (.movImm16 0x1234 12) ∧
    decodeTableWord 16 0x0F09 = none := by decide +kernel

/-- The first step after reset runs the word placed for it (log 45). -/
theorem test_step_from_reset :
    stepped (State.reset.withFetchWord 16 0xE1FF) (fun t => (t.reg 1, t.pc)) = some (0xFFFFFFFF, 0xA0000002) ∧
    stepped (State.reset.withFetchWord 32 0x8E12EC34) (fun t => (t.reg 12, t.pc)) = some (0x1234, 0xA0000004) := by
  decide +kernel

/-- 95_test_vectors.md Part 3, interrupt acceptance: level 4 against mask 3 is accepted, level 3 is not. -/
theorem test_interrupt :
    stepped (masked [.irq 4 0x240]) (fun t => [t.intevt, t.spc, t.ssr, t.sr, t.pc]) =
      some [0x240, 0x0C000100, 0x40000030, 0x70000030, 0x600] ∧
    stepped ((masked [.irq 3 0x240]).withFetchWord 16 0x0009) (·.pc) = some 0x0C000102 ∧
    stepped ({ masked [.nmi] with sr := 0x50000000 }.withFetchWord 16 0x0009) (·.pc) = some 0x0C000102 := by
  decide +kernel

/-- 95_test_vectors.md Part 3: a slot whose first word is `8E00`, the unassigned `0F09`, an odd target. -/
theorem test_step_traps :
    stepped (inSlot.withFetchWord 32 0x8E00E000) (fun t => [t.expevt, t.spc]) = some [0x1A0, 0x0C0000FE] ∧
    stepped (base.withFetchWord 16 0x0F09) (fun t => [t.expevt, t.spc]) = some [0x180, 0x0C000100] ∧
    stepped (at_ 0x0C001001) (fun t => [t.expevt, t.tea, t.spc]) = some [0x0E0, 0x0C001001, 0x0C001001] := by
  decide +kernel

/-- R720(a): nothing that wakes the core is to come; of level 3 against mask 3 nothing either. R468: level 4 later does. -/
theorem test_sleep :
    faulted asleep = some .asleepForever ∧
    faulted { masked [.quiet, .irq 3 0x240] with asleep := true } = some .asleepForever ∧
    stepped { masked [.quiet, .irq 4 0x240] with asleep := true } (fun t => (t.asleep, t.pc)) =
      some (true, 0x0C000100) := by decide +kernel

/-- R92: memory after reset holds what the platform put there; of two bytes for one address the first. -/
theorem test_contents :
    (State.initial { Config.standard with contents := [(4, 0x12), (2, 0x34), (4, 0x56), (3, 0)] }).mem =
      [(2, 0x34), (4, 0x12)] := by decide +kernel

/-! ### What WellFormed refuses -/

theorem test_ill_formed_nop : (Instr.nop 15).wellFormed = false ∧ (Instr.nop 14).wellFormed = true := by decide

theorem test_ill_formed_index :
    (Instr.movBStoreIdx4 1 2 15 0).wellFormed = false ∧ (Instr.movWStoreIdx4 1 2 15 0).wellFormed = false ∧
    (Instr.movLStoreIdx4 1 2 15 0).wellFormed = false ∧ (Instr.movBLoadIdx4 1 15 0 2).wellFormed = false ∧
    (Instr.movWLoadIdx4 1 15 0 2).wellFormed = false ∧ (Instr.movLLoadIdx4 1 15 0 2).wellFormed = false ∧
    (Instr.movLStoreIdx8 1 2 15 0).wellFormed = false ∧ (Instr.movLLoadIdx8 1 15 0 2).wellFormed = false ∧
    (Instr.movuBLoadIdx 1 15 2).wellFormed = false ∧ (Instr.movuWLoadIdx 1 15 2).wellFormed = false ∧
    (Instr.fmovLoadIdx 1 15 2).wellFormed = false ∧ (Instr.fmovStoreIdx 1 2 15).wellFormed = false ∧
    (Instr.movBStoreIdx4 1 2 0 0).wellFormed = true := by decide

theorem test_ill_formed_lea :
    (Instr.leaBIdx4 1 15 0 2).wellFormed = false ∧ (Instr.leaBIdx4 1 0 0 2).wellFormed = false ∧
    (Instr.leaWIdx4 1 0 0 2).wellFormed = false ∧ (Instr.leaLIdx4 1 0 0 2).wellFormed = false ∧
    (Instr.leaQIdx4 1 15 0 2).wellFormed = false ∧ (Instr.leaBIdx4 1 14 0 2).wellFormed = true := by decide

/-! ### Words that are no instruction (30_encoding.md R160 to R163) -/

theorem test_decode_no_instruction :
    decode 0x0F09 0 = .unassigned ∧ decode 0x0000 0 = .outOfScope ∧ decode 0x8300 0 = .outOfScope ∧
    decode 0x8E01 0x404E = .deprecated "MOV.B Rm, @(Rn, Ro)" := by decide +kernel

/-! ### Hypotheses that can be met -/

/-- `resolve` answers memory at `pa`. -/
def reachesCheck (k : AccessKind) (w : Width) (s : State) (va : Word) (pa : Nat) : Bool :=
  match resolve k s.md w va s with
  | .ok (.memory p) _ => p == pa
  | _ => false

theorem reaches_of_check {k : AccessKind} {w : Width} {s : State} {va : Word} {pa : Nat}
    (h : reachesCheck k w s va pa = true) : Reaches k w s va pa := by
  unfold reachesCheck at h
  split at h
  · next p u hr => exact ⟨u, by rw [hr, eq_of_beq h]⟩
  · cases h

/-- The two accesses of a pair answer memory. -/
def reachesPairCheck (k : AccessKind) (s : State) (va : Word) (pa pb : Nat) : Bool :=
  match resolve k s.md .long va s with
  | .ok (.memory p) u =>
    match resolve k s.md .long (va + 4) u with
    | .ok (.memory q) _ => p == pa && q == pb
    | _ => false
  | _ => false

theorem reachesPair_of_check {k : AccessKind} {s : State} {va : Word} {pa pb : Nat}
    (h : reachesPairCheck k s va pa pb = true) : ReachesPair k s va pa pb := by
  unfold reachesPairCheck at h
  split at h
  · next p u hr =>
    split at h
    · next q v hs =>
      rw [Bool.and_eq_true] at h
      exact ⟨u, v, by rw [hr, eq_of_beq h.1], by rw [hs, eq_of_beq h.2]⟩
    · cases h
  · cases h

/-- The fetch of one or two words answers fresh memory. -/
def fetchPathCheck (s : State) (wide : Bool) (pa pb : Nat) : Bool :=
  match resolve .read s.fetchMd .half s.pc s.consumed with
  | .ok (.memory p) u =>
    p == pa && s.stale.isEmpty && (!wide ||
      match resolve .read s.fetchMd .half (s.pc + 2) u.drawn.drawn with
      | .ok (.memory q) _ => q == pb
      | _ => false)
  | _ => false

theorem fetchPath_of_check {s : State} {wide : Bool} {pa pb : Nat} (h : fetchPathCheck s wide pa pb = true) :
    FetchPath s wide pa pb := by
  unfold fetchPathCheck at h
  split at h
  · next p u hr =>
    rw [Bool.and_eq_true, Bool.and_eq_true, List.isEmpty_iff] at h
    have fresh : ∀ a, Fresh s a := fun a => ⟨by rw [h.1.2]; rfl, by rw [h.1.2]; rfl⟩
    refine ⟨u, by rw [hr, eq_of_beq h.1.1], fresh _, fun hw => ?_⟩
    rw [hw] at h
    have h2 := h.2
    rw [Bool.not_true, Bool.false_or] at h2
    split at h2
    · next q v hs => exact ⟨v, by rw [hs, eq_of_beq h2], fresh _⟩
    · cases h2
  · cases h

theorem undisturbed_of_quiet {s : State} (ha : s.asleep = false) (he : s.event = .quiet) : Undisturbed s :=
  ⟨ha, fun c h => (by rw [he] at h; cases h), by rw [he]; unfold acceptedCode; split <;> rfl⟩

/-- The state meets the invariant, as one truth value. -/
def invCheck (s : State) : Bool :=
  Memory.wf s.mem && s.sr &&& ~~~srMask == 0 && s.traevt &&& ~~~0x3FC == 0 && s.expevt &&& ~~~0xFFF == 0 &&
    s.intevt &&& ~~~0xFFF == 0 && s.mmucr &&& ~~~mmucrMask == 0 && (s.cfg.hasMmu || !s.translating)

theorem inv_of_check {s : State} (h : invCheck s = true) : StateInvariant s := by
  simp only [invCheck, Bool.and_eq_true, beq_iff_eq, Bool.or_eq_true, Bool.not_eq_true'] at h
  obtain ⟨⟨⟨⟨⟨⟨h1, h2⟩, h3⟩, h4⟩, h5⟩, h6⟩, h7⟩ := h
  exact ⟨h1, h2, h3, h4, h5, h6, fun hm => by rcases h7 with h7 | h7; · { rw [hm] at h7; cases h7 }; · exact h7⟩

theorem stepped_some {α : Type} {s : State} {f : State → α} {a : α} (h : stepped s f = some a) :
    ∃ t, step s = .next t ∧ f t = a := by
  unfold stepped at h
  split at h
  · next t ht => exact ⟨t, ht, Option.some.inj h⟩
  · cases h

/-- `translate` answers, or raises. -/
def translates (va : Word) (s : State) : Option Bool :=
  match locate .read s.md .byte va s with
  | .ok _ _ => some true
  | .exc _ _ => some false
  | _ => none

theorem translates_ok {va : Word} {s : State} (h : translates va s = some true) :
    ∃ pa u, locate .read s.md .byte va s = .ok pa u := by
  unfold translates at h
  split at h
  · next pa u hr => exact ⟨pa, u, hr⟩
  all_goals cases h

theorem translates_exc {va : Word} {s : State} (h : translates va s = some false) :
    ∃ e u, locate .read s.md .byte va s = .exc e u := by
  unfold translates at h
  split at h
  · cases h
  · next e u hr => exact ⟨e, u, hr⟩
  · cases h

/-- Of `base`, `inSlot` and their like: the FPU is on, every pair exists, the rounding mode is defined. -/
theorem fpuReady_base : FpuReady fp ∧ RoundingSet fp ∧ ∀ rs, OperandsExist fp rs :=
  ⟨⟨⟨by decide +kernel, by decide +kernel⟩, fun h => absurd h (by decide +kernel)⟩, by
    unfold RoundingSet; decide +kernel, fun _ h => absurd h (by decide +kernel)⟩

theorem fpuReady_double : FpuReady fpDouble ∧ RoundingSet fpDouble ∧ ∀ rs, OperandsExist fpDouble rs :=
  ⟨⟨⟨by decide +kernel, by decide +kernel⟩, fun h => absurd h (by decide +kernel)⟩, by
    unfold RoundingSet; decide +kernel, fun _ _ _ _ h => absurd h (by decide +kernel)⟩

theorem fpuReady_pair : FpuReady fpPair ∧ ∀ r, PairExists fpPair r :=
  ⟨⟨⟨by decide +kernel, by decide +kernel⟩, fun h => absurd h (by decide +kernel)⟩, fun _ h =>
    absurd h (by decide +kernel)⟩

/-- With FR = 0 and the FPU on, whatever else FPSCR holds. -/
theorem fpuReady_single (v : Word) (h : v.getLsbD 21 = false) : FpuReady { fp with fpscr := v } :=
  ⟨fpuReady_base.1.1, fun _ => h⟩

theorem test_witness_encoding :
    (Instr.nop 14).encodable = true ∧ (Instr.movImm16 0x1234 12).encodable = true ∧
    decode 0x0E09 0 = .instr (.nop 14) ∧ decode 0x8E12 0xEC34 = .instr (.movImm16 0x1234 12) := by decide +kernel

theorem test_witness_StepRunsDecodedInstruction :
    (Undisturbed narrow ∧ FetchPath narrow false 0x0C000100 0 ∧ isWide (wordAt narrow 0x0C000100) = false ∧
      decode (wordAt narrow 0x0C000100) (wordAt narrow 0) = .instr (.add 2 1)) ∧
    (Undisturbed wide ∧ FetchPath wide true 0x0C000100 0x0C000102 ∧ isWide (wordAt wide 0x0C000100) = true ∧
      decode (wordAt wide 0x0C000100) (wordAt wide 0x0C000102) = .instr (.movImm16 0x1234 12) ∧ wide.pending = none) :=
  ⟨⟨undisturbed_of_quiet (by decide +kernel) (by decide +kernel), fetchPath_of_check (by decide +kernel),
    by decide +kernel, by decide +kernel⟩,
   ⟨undisturbed_of_quiet (by decide +kernel) (by decide +kernel), fetchPath_of_check (by decide +kernel),
    by decide +kernel, by decide +kernel, by decide +kernel⟩⟩

theorem test_witness_OtherEncodingsTrapOrStop :
    (Undisturbed (base.withFetchWord 16 0x0F09) ∧ FetchPath (base.withFetchWord 16 0x0F09) false 0x0C000100 0 ∧
      decode (wordAt (base.withFetchWord 16 0x0F09) 0x0C000100) 0 = .unassigned ∧
      (base.withFetchWord 16 0x0F09).bl = false) ∧
    (decode (wordAt (base.withFetchWord 16 0x8300) 0x0C000100) 0 = .outOfScope ∧
      FetchPath (base.withFetchWord 16 0x8300) false 0x0C000100 0) ∧
    (decode (wordAt (base.withFetchWord 32 0x8E01404E) 0x0C000100)
        (wordAt (base.withFetchWord 32 0x8E01404E) 0x0C000102) = .deprecated "MOV.B Rm, @(Rn, Ro)" ∧
      FetchPath (base.withFetchWord 32 0x8E01404E) true 0x0C000100 0x0C000102) :=
  ⟨⟨undisturbed_of_quiet (by decide +kernel) (by decide +kernel), fetchPath_of_check (by decide +kernel),
    by decide +kernel, by decide +kernel⟩, ⟨by decide +kernel, fetchPath_of_check (by decide +kernel)⟩,
   ⟨by decide +kernel, fetchPath_of_check (by decide +kernel)⟩⟩

theorem test_witness_StepKeepsWellFormedState : StateInvariant narrow ∧ ∃ t, step narrow = .next t ∧ t.reg 1 = 3 :=
  ⟨inv_of_check (by decide +kernel), stepped_some (by decide +kernel)⟩

theorem test_witness_ResetValues :
    (masked [.reset .manual]).event = .reset .manual ∧
      ∃ t, step (masked [.reset .manual]) = .next t ∧ t.expevt = 0x020 :=
  ⟨by decide +kernel, stepped_some (by decide +kernel)⟩

theorem test_witness_ExceptionEntry :
    base.bl = false ∧ base.pending = none ∧ inSlot.bl = false ∧ inSlot.pending.isSome = true ∧
    State.reset.bl = true := by decide +kernel

/-- Level 4 and NMI against mask 3 are accepted; level 3 is not; a sleeping core, with and without what wakes it. -/
theorem test_witness_InterruptAcceptance :
    acceptedCode (masked [.irq 4 0x240]) (masked [.irq 4 0x240]).event = some 0x240 ∧
    acceptedCode (masked [.irq 3 0x240]) (masked [.irq 3 0x240]).event = none ∧
    acceptedCode (masked [.nmi]) (masked [.nmi]).event = some 0x1C0 ∧
    acceptedCode { masked [.irq 15 0x240] with pending := inSlot.pending } (.irq 15 0x240) = none ∧
    (acceptedCode asleep asleep.event = none ∧ asleep.asleep = true ∧ asleep.events.tail = []) ∧
    acceptedCode { masked [.quiet, .irq 4 0x240] with asleep := true } (.irq 4 0x240) ≠ none := by decide +kernel

theorem test_witness_PrivilegedInUserModeTraps :
    privilegedInstr (.ldcSr 1) = true ∧ user.md = false ∧ user.bl = false := by decide +kernel

theorem test_witness_SlotIllegalTraps :
    inSlot.pending ≠ none ∧ inSlot.bl = false ∧ slotIllegal (.mova 1) = true ∧
    (Undisturbed (inSlot.withFetchWord 32 0x8E00E000) ∧
      FetchPath (inSlot.withFetchWord 32 0x8E00E000) false 0x0C000100 0x0C000100 ∧
      isWide (wordAt (inSlot.withFetchWord 32 0x8E00E000) 0x0C000100) = true) :=
  ⟨by decide +kernel, by decide +kernel, by decide +kernel,
    undisturbed_of_quiet (by decide +kernel) (by decide +kernel), fetchPath_of_check (by decide +kernel),
    by decide +kernel⟩

theorem test_witness_FpuDisabledTraps :
    fpuInstr (.fadd 2 1) = true ∧ Startable (.fadd 2 1) fpuOff ∧ ¬ FpuOn fpuOff ∧ fpuOff.bl = false :=
  ⟨by decide +kernel, fun _ => by decide +kernel, fun h => absurd h.1 (by decide +kernel), by decide +kernel⟩

theorem test_witness_UndefinedOperandsStop :
    (Startable (.movBStoreIdx4 1 2 15 0) base ∧ (Instr.movBStoreIdx4 1 2 15 0).operandsDefined = false ∧
      fpuInstr (.movBStoreIdx4 1 2 15 0) = false) ∧
    ((Instr.fmovLoadIdx 1 15 2).operandsDefined = false ∧ fpuInstr (.fmovLoadIdx 1 15 2) = true ∧ FpuReady fp) ∧
    (FpuReady fpDouble ∧ fpDouble.prec = true) ∧ (FpuReady fp ∧ fp.prec = false) ∧
    (fpArithmetic (.fcmpEq 2 1) = true ∧ Startable (.fcmpEq 2 1) { fp with fpscr := 2 } ∧
      FpuReady { fp with fpscr := 2 } ∧ ¬ RoundingSet { fp with fpscr := 2 }) ∧
    (fpArithmetic (.fcnvds 1) = true ∧ FpuReady { fp with fpscr := 0x00080003 } ∧
      ¬ RoundingSet { fp with fpscr := 0x00080003 } ∧ { fp with fpscr := 0x00080003 }.prec = true) :=
  ⟨⟨fun _ => by decide +kernel, by decide, by decide⟩, ⟨by decide, by decide, fpuReady_base.1⟩,
   ⟨fpuReady_double.1, by decide +kernel⟩, ⟨fpuReady_base.1, by decide +kernel⟩,
   ⟨by decide, fun _ => by decide +kernel, fpuReady_single _ (by decide), by unfold RoundingSet; decide +kernel⟩,
   ⟨by decide, fpuReady_single _ (by decide), by unfold RoundingSet; decide +kernel, by decide +kernel⟩⟩

/-- FSQRT, FMAC, FLOAT and FCNVDS, and an instruction that does not round, under RM 2 or 3; FTRC under RM 3. -/
theorem test_rounding_undefined :
    ([(0xF16D, 0x2), (0xF12E, 0x3), (0xF12D, 0x2), (0xF12D, 0x80002), (0xF2BD, 0x80003), (0xF14D, 0x2), (0xF124, 0x3),
      (0xF19D, 0x2)].map fun p : Half × Word => refused p.1 { fp with fpscr := p.2 }) =
        List.replicate 8 (some .undefinedRounding) ∧
    run 0xF13D 0 (fregs { fp with fpscr := 0x3 } [(1, 0x40700000)]) (·.fpul) = some 3 := by decide +kernel

/-- A misaligned long, and a user-mode address with bit 31 set. -/
theorem test_witness_AccessExceptionsRaised :
    (∃ u, resolve .read (odd.md) .long (odd.reg 2) odd = .exc (.rAddErr (ram + 2)) u) ∧
    accessForm odd (.movLLoadInd 2 1) = some ⟨.read, .long, odd.reg 2⟩ ∧ Startable (.movLLoadInd 2 1) odd ∧
    ModeAllows (.movLLoadInd 2 1) odd :=
  ⟨excCheck_spec (by decide +kernel), by decide +kernel, fun _ => by decide +kernel, fun h => absurd h (by decide)⟩

/-- The same in FMOV.S; in a pair whose second access alone fails, at the last address of user mode; and in a fetch. -/
theorem test_witness_AccessExceptionsRaised_fp_fetch :
    (fpLoadForm odd (.fmovLoadInd 2 1) = some ⟨1, ram + 2, none⟩ ∧ FpuReady odd ∧ Startable (.fmovLoadInd 2 1) odd ∧
      ∃ u, resolve .read odd.md .long (ram + 2) odd = .exc (.rAddErr (ram + 2)) u) ∧
    (edge.sz = true ∧ fpLoadForm edge (.fmovLoadInd 2 1) = some ⟨1, 0x7FFFFFFC, none⟩ ∧
      ∃ place v u, resolve .read edge.md .long 0x7FFFFFFC edge = .ok place v ∧
        resolve .read edge.md .long (0x7FFFFFFC + 4) v = .exc (.rAddErr 0x80000000) u) ∧
    (Undisturbed (at_ 0x0C001001) ∧
      ∃ t, step (at_ 0x0C001001) = .next t ∧ [t.expevt, t.tea] = [0x0E0, 0x0C001001]) :=
  ⟨⟨by decide +kernel, ⟨⟨by decide +kernel, by decide +kernel⟩, fun h => absurd h (by decide +kernel)⟩,
    fun _ => by decide +kernel, excCheck_spec (by decide +kernel)⟩,
   ⟨by decide +kernel, by decide +kernel, secondExc_spec (by decide +kernel)⟩,
   ⟨undisturbed_of_quiet (by decide +kernel) (by decide +kernel), stepped_some (by decide +kernel)⟩⟩

/-- On the Basic profile: FR = 1; FR = 0 with an odd pair, PR = 1; the instructions that select the bank. -/
theorem test_witness_UndefinedOperandsStop_basic :
    basicFpu.cfg.fpuProfile = .basic ∧ basicFpu.fd = false ∧ basicFpu.frBit = false ∧ usesFpCells (.fneg 1) = true ∧
    (3 ∈ fpPairs basicFpu (.fneg 3) ∧ pairOdd 3 = true) ∧ RoundingSet basicFpu ∧
    { basicFpu with fpscr := 0x00240001 }.frBit = true ∧ ¬ BankSelectable basicFpu .frchg :=
  ⟨by decide +kernel, by decide +kernel, by decide +kernel, by decide, by decide +kernel,
   by unfold RoundingSet; decide +kernel, by decide +kernel, fun h => (h (by decide +kernel)).1 rfl⟩

/-- The lowest and highest user-mode addresses, the first one above them, and a misaligned one. -/
theorem test_witness_AddressChecks :
    Addressable false .long 0x7FFFFFFC base ∧ ¬ Addressable false .long 0x80000000 base ∧
    Addressable true .long 0xFFFFFFFC base ∧ ¬ Addressable true .half 1 base ∧ ¬ Translated base 0 ∧
    (regionAt base.cfg.regions (0xE0200000 % 2 ^ 29) = some .device ∧ mmrAt (0xE0200000 % 2 ^ 29) = none) ∧
    (regionAt base.cfg.regions (0xE0000000 % 2 ^ 29) = some .memory ∧ mmrAt (0xE0000000 % 2 ^ 29) = none) ∧
    (regionAt base.cfg.regions (0xD8000000 % 2 ^ 29) = some .memory ∧ ¬ Translated base 0xD8000000) :=
  ⟨⟨by decide, by decide, .inr (by decide)⟩, fun h => absurd h.allowed (by decide), ⟨by decide, by decide, .inl rfl⟩,
   fun h => absurd h.aligned (by decide), fun h => absurd h.1 (by decide +kernel), by decide +kernel, by decide +kernel,
   by decide +kernel, fun h => absurd h.1 (by decide +kernel)⟩

/-- R73 and R74: the device at 0020_0000 through range 7 too; no memory there; the byte at 0C00_1000 through the others. -/
theorem test_aliases :
    (reached .read base 0x00200000, reached .read base 0xE0200000) =
      (some (.device 0x00200000), some (.device 0x00200000)) ∧ reached .read base 0xEC001000 = none ∧
    [0x0C001000, 0x2C001000, 0x8C001000, 0xAC001000, 0xCC001000].map (reached .read base) =
      List.replicate 5 (some (.memory 0x0C001000)) ∧
    [0x1F000010, 0x5F000010, 0xFF000010].map (reached .write base) = List.replicate 3 (some (.register .mmucr)) ∧
    excCheck .read .long 0x1F000000 user (.rAddErr 0x1F000000) = true ∧
    excCheck .write .byte 0x1F00002B user (.wAddErr 0x1F00002B) = true := by decide +kernel

/-- A directory at 0C00_1000 whose first entry names the table at 0C00_2000, whose first entry names page 0C00_3000. -/
theorem test_witness_PageTableTranslation :
    Addressable true .long 0 paged ∧ Translated paged 0 ∧ InTableMemory paged (directoryEntry paged 0) ∧
    ValidEntry (valueAt paged (directoryEntry paged 0) .long) ∧
    InTableMemory paged (pageEntry (valueAt paged (directoryEntry paged 0) .long) 0) ∧
    ValidEntry (valueAt paged (pageEntry (valueAt paged (directoryEntry paged 0) .long) 0) .long) ∧
    (valueAt paged (pageEntry (valueAt paged (directoryEntry paged 0) .long) 0x1000) .long).getLsbD 8 = false ∧
    (valueAt paged (directoryEntry paged 0x400000) .long).getLsbD 8 = false :=
  ⟨⟨by decide, by decide, .inl rfl⟩, ⟨by decide +kernel, by decide⟩, by unfold InTableMemory; decide +kernel,
   by unfold ValidEntry; decide +kernel, by unfold InTableMemory; decide +kernel,
   by unfold ValidEntry; decide +kernel, by decide +kernel, by decide +kernel⟩

/-- MMUCR at FF00_0010 and INTEVT, the last register, at FF00_0028; in user mode at that address and at 1F00_0028. -/
theorem test_witness_MemoryMappedRegisters :
    base.cfg.addr32 = false ∧ (0xFF000010 : Word).toNat % 2 ^ 29 = 0x1F000000 + registerOffset .mmucr ∧
    (0xFF000028 : Word).toNat % 2 ^ 29 = 0x1F000000 + registerOffset .intevt ∧ base.md = true ∧ user.md = false ∧
    ((0x1F000028 : Word).toNat % 2 ^ 29 = 0x1F000000 + registerOffset .intevt ∧ (0x1F000028 : Word).toNat < 2 ^ 31) ∧
    ((0x101 : Word) &&& ~~~0x105 = 0 ∧ base.cfg.hasMmu = true) ∧ (0x1000 : Word) &&& ~~~0x105 ≠ 0 ∧
    base.mmucr.getLsbD 0 = false ∧ user.mmucr.getLsbD 0 = false := by decide +kernel

theorem test_witness_user_mode :
    user.md = false ∧ user.event = .quiet ∧ acceptedCode user user.event = none ∧
    (∃ t, step user = .next t ∧ t.md = true ∧ t.pc = 0x100) ∧
    (∃ t, step { user with cfg := user.cfg, mem := narrow.mem } = .next t ∧ t.md = false) :=
  ⟨by decide +kernel, by decide +kernel, by decide +kernel,
   (stepped_some (f := fun t => (t.md, t.pc)) (a := (true, 0x100)) (by decide +kernel)).imp fun _ h =>
     ⟨h.1, (Prod.mk.inj h.2).1, (Prod.mk.inj h.2).2⟩, stepped_some (by decide +kernel)⟩

theorem startable_base (i : Instr) : Startable i base := fun _ => by decide +kernel

theorem test_witness_MoveResults :
    moveResult base (.leaBIdx4 1 14 0 2) = some (2, 0) ∧ Startable (.leaBIdx4 1 14 0 2) base ∧
    (Instr.leaBIdx4 1 14 0 2).operandsDefined = true := ⟨by decide +kernel, startable_base _, by decide⟩

theorem test_witness_ArithmeticResults :
    arithmeticResult base (.sub3Imm8 1 2 3) = some (3, 0xFFFFFFFE) ∧ Startable (.sub3Imm8 1 2 3) base :=
  ⟨by decide +kernel, startable_base _⟩

theorem test_witness_CarryResults : carryResult base (.dt 1) = some (1, -1, false) := by decide +kernel

theorem test_witness_CompareResults :
    compareResult base (.cmpEqImm12 0 1) = some true ∧ Startable (.cmpEqImm12 0 1) base :=
  ⟨by decide +kernel, startable_base _⟩

theorem test_witness_MultiplyResults : macResult base (.dmulsL 2 1) = some (some 0, 0) := by decide +kernel

/-- The dividend shifted in with T, at Q = M and with the divisor 0. -/
theorem test_witness_DivideResults :
    base.q = base.m ∧ (2 * (base.reg 1).toNat + base.t.toNat : Nat) % 2 ^ 32 = 0 := by decide +kernel

theorem test_witness_LogicResults :
    logicResult base (.orImm12 0x123 1) = some (1, 0x123) ∧ Startable (.orImm12 0x123 1) base :=
  ⟨by decide +kernel, startable_base _⟩

theorem test_witness_OneBitShiftResults :
    oneBitResult (regs base [(1, 1)]) (.rotcr 1) = some (1, 0, true) := by decide +kernel

theorem test_witness_BarrelShiftResults :
    shiftResult inRam (.shad3Imm8 2 0xE0 3) = some (3, 0) ∧ Startable (.shad3Imm8 2 0xE0 3) inRam :=
  ⟨by decide +kernel, fun _ => by decide +kernel⟩

/-- A call, without delay slot and without condition; a conditional branch with delay slot, not taken. -/
theorem test_witness_BranchResults :
    branchForm base (.bsrN16 1) = some ⟨true, 0x0C000108, false, some 0x0C000104⟩ ∧ Startable (.bsrN16 1) base ∧
    branchForm base (.btS8 1) = some ⟨false, 0x0C000106, true, none⟩ ∧ Startable (.btS8 1) base :=
  ⟨by decide +kernel, startable_base _, by decide +kernel, startable_base _⟩

theorem startable_inRam (i : Instr) : Startable i inRam := fun _ => by decide +kernel

theorem test_witness_LoadResults :
    loadForm inRam (.movLLoadIdx8 2 0 0 1) = some ⟨.long, true, ram, 1⟩ ∧ Startable (.movLLoadIdx8 2 0 0 1) inRam ∧
    (Instr.movLLoadIdx8 2 0 0 1).operandsDefined = true ∧ Reaches .read .long inRam ram 0x0C001000 :=
  ⟨by decide +kernel, startable_inRam _, by decide, reaches_of_check (by decide +kernel)⟩

/-- `resolve` answers a place. -/
theorem resolve_of_reached {k : AccessKind} {s : State} {va : Word} {p : Place} (h : reached k s va = some p) :
    ∃ u, resolve k s.md .long va s = .ok p u := by
  unfold reached at h
  split at h
  · next q u hr => exact ⟨u, by rw [hr, Option.some.inj h]⟩
  · cases h

theorem placeAccepts_of_ne {cfg : Config} {p : Place} {v : Word} (h : p ≠ .register .mmucr) : PlaceAccepts cfg p v :=
  fun _ hr hm => absurd (hr.trans (hm ▸ rfl)) h

/-- INTEVT, the last register, and the first byte of a device, by loads and stores of every shape; a value MMUCR takes. -/
theorem test_witness_RegisterAndDeviceAccesses :
    (loadForm atIntevt (.movLLoadInd 2 1) = some ⟨.long, true, 0xFF000028, 1⟩ ∧
      stepLoadForm atIntevt (.movLLoadPostInc 2 1) = some (⟨.long, 0xFF000028, 2, 0xFF00002C⟩, 1) ∧
      storeForm atIntevt (.movLStoreInd 1 2) = some ⟨.long, 0xFF000028, 0⟩ ∧
      loadPointer (.ldclGbr 2) = some 2 ∧ loadPointer (.ldclSr 2) = some 2 ∧ loadPointer (.ldclBank 2 1) = some 2 ∧
      fpLoadForm atIntevt (.fmovLoadInd 2 1) = some ⟨1, 0xFF000028, none⟩ ∧
      fpStoreForm atIntevt (.fmovStoreInd 1 2) = some ⟨1, 0xFF000028, none⟩) ∧
    (∃ u, resolve .read atIntevt.md .long 0xFF000028 atIntevt = .ok (.register .intevt) u) ∧
    (∃ u, resolve .write atIntevt.md .long 0xFF000028 atIntevt = .ok (.register .intevt) u) ∧
    (stepStoreForm atDevice (.stclGbr 2) = some (⟨.long, 0xBE000000, 2, 0xBE000000⟩, 0) ∧
      ∃ u, resolve .write atDevice.md .long 0xBE000000 atDevice = .ok (.device 0x1E000000) u) ∧
    (∀ i, Startable i atIntevt) ∧ (∀ i, ModeAllows i atIntevt) ∧ FpuReady atIntevt ∧
    (PlaceAccepts base.cfg (.register .intevt) 7 ∧ PlaceAccepts base.cfg (.register .mmucr) 0x105) :=
  ⟨⟨by decide +kernel, by decide +kernel, by decide +kernel, by decide, by decide, by decide, by decide +kernel,
    by decide +kernel⟩, resolve_of_reached (by decide +kernel), resolve_of_reached (by decide +kernel),
   ⟨by decide +kernel, resolve_of_reached (by decide +kernel)⟩, fun _ _ => by decide +kernel,
   fun _ _ => by decide +kernel, ⟨⟨by decide +kernel, by decide +kernel⟩, fun h => absurd h (by decide +kernel)⟩,
   placeAccepts_of_ne (by decide), fun r h _ => by cases h; exact ⟨by decide, fun _ => by decide +kernel⟩⟩

/-- CAS.L at INTEVT, of equal and unequal values; a pair whose two words are PTEH and PTEL. -/
theorem test_witness_RegisterAndDeviceAccesses_two :
    (∃ u, resolve .write casIntevt.md .long (casIntevt.reg 0) casIntevt = .ok (.register .intevt) u) ∧
    casIntevt.intevt = casIntevt.reg 2 ∧ casIntevt.intevt ≠ casIntevt.reg 0 ∧
    (pairPteh.sz = true ∧ FpuReady pairPteh ∧ PairExists pairPteh 1 ∧
      (∃ u, resolve .read pairPteh.md .long (pairPteh.reg 2) pairPteh = .ok (.register .pteh) u) ∧
      (∃ u, resolve .read pairPteh.md .long (pairPteh.reg 2 + 4) pairPteh = .ok (.register .ptel) u) ∧
      ∃ u, resolve .write pairPteh.md .long (pairPteh.reg 2 + 4) pairPteh = .ok (.register .ptel) u) :=
  ⟨resolve_of_reached (by decide +kernel), by decide +kernel, by decide +kernel, by decide +kernel,
   ⟨⟨by decide +kernel, by decide +kernel⟩, fun h => absurd h (by decide +kernel)⟩, fun h => absurd h (by decide +kernel),
   resolve_of_reached (by decide +kernel), resolve_of_reached (by decide +kernel),
   resolve_of_reached (by decide +kernel)⟩

/-- R625(b), R72: in user mode a load and a store of MMUCR at 1F00_0010 take the address error and change no register. -/
theorem test_register_user :
    run 0x6122 0 (regs user [(1, 1), (2, 0x1F000010)]) (fun t => [t.expevt, t.tea, t.bankA[1], t.mmucr]) =
      some [0x0E0, 0x1F000010, 1, 0] ∧
    run 0x2212 0 (regs user [(1, 1), (2, 0x1F000010)]) (fun t => [t.expevt, t.tea, t.mmucr]) =
      some [0x100, 0x1F000010, 0] := by decide +kernel

/-- STC.L to a device is recorded; a post-increment load of EXPEVT, whose value after power-on is 0. -/
theorem test_register_and_device :
    run 0x4213 0 atDevice (fun t => (t.reg 2, t.devLog)) =
      some (0xBE000000, [⟨true, 0x1E000000, .long, 0⟩]) ∧
    run 0x6126 0 { regs base [(1, 5), (2, 0xFF000024)] with expevt := 0x1A0 } (fun t => [t.reg 1, t.reg 2]) =
      some [0x1A0, 0xFF000028] ∧
    run 0x2120 0 base (fun _ => ()) = some () ∧
    run 0x2103 0 casIntevt (fun t => (t.reg 1, t.t, t.intevt)) = some (0, false, 0) := by decide +kernel

/-- With two registers, and with one as both pointer and destination. -/
theorem test_witness_StepLoadResults :
    stepLoadForm inRam (.movLLoadPostInc 2 1) = some (⟨.long, ram, 2, ram + 4⟩, 1) ∧
    stepLoadForm inRam (.movBLoadPostInc 2 2) = some (⟨.byte, ram, 2, ram + 1⟩, 2) ∧
    Reaches .read .long inRam ram 0x0C001000 ∧ Reaches .read .byte inRam ram 0x0C001000 :=
  ⟨by decide +kernel, by decide +kernel, reaches_of_check (by decide +kernel), reaches_of_check (by decide +kernel)⟩

theorem test_witness_StoreResults :
    storeForm inRam (.movLStoreIdx8 1 2 0 0) = some ⟨.long, ram, 0⟩ ∧ Startable (.movLStoreIdx8 1 2 0 0) inRam ∧
    (Instr.movLStoreIdx8 1 2 0 0).operandsDefined = true ∧ Reaches .write .long inRam ram 0x0C001000 :=
  ⟨by decide +kernel, startable_inRam _, by decide, reaches_of_check (by decide +kernel)⟩

theorem test_witness_StepStoreResults :
    stepStoreForm inRam (.stslFpul 2) = some (⟨.long, ram - 4, 2, ram - 4⟩, 0) ∧ ModeAllows (.stslFpul 2) inRam ∧
    FpuOn inRam ∧ Reaches .write .long inRam (ram - 4) 0x0C000FFC :=
  ⟨by decide +kernel, fun h => absurd h (by decide), ⟨by decide +kernel, by decide +kernel⟩,
   reaches_of_check (by decide +kernel)⟩

/-- Both clauses: the long at R0 equals Rm, or does not. -/
theorem test_witness_CompareAndSwapResults :
    Reaches .write .long (regs base [(0, ram)]) ((regs base [(0, ram)]).reg 0) 0x0C001000 ∧
    valueAt (regs base [(0, ram)]) 0x0C001000 .long = (regs base [(0, ram)]).reg 2 ∧
    valueAt (regs base [(0, ram)]) 0x0C001000 .long ≠ (regs base [(0, ram)]).reg 0 :=
  ⟨reaches_of_check (by decide +kernel), by decide +kernel, by decide +kernel⟩

/-- An address in RAM; the first address that user mode may not use. -/
theorem test_witness_CacheInstructions :
    (∃ pa u, locate .read inRam.drawn.md .byte (inRam.reg 2) inRam.drawn = .ok pa u) ∧
    (∃ e u, locate .read user.drawn.md .byte 0x80000000 user.drawn = .exc e u) :=
  ⟨translates_ok (by decide +kernel), translates_exc (by decide +kernel)⟩

theorem test_witness_ControlRegisterReads :
    storeControlDest (.stcVbr 1) = some 1 ∧ controlRead base (.stcVbr 1) = some 0 ∧ ModeAllows (.stcVbr 1) base :=
  ⟨by decide, by decide +kernel, fun _ => by decide +kernel⟩

theorem test_witness_ControlRegisterWrites :
    (controlOf (.ldsFpscr 2) = some .fpscr ∧ loadControlSource (.ldsFpscr 2) = some 2 ∧ FpuOn inRam) ∧
    (controlOf (.ldclSgr 2) = some .sgr ∧ popPointer (.ldclSgr 2) = some 2 ∧ ModeAllows (.ldclSgr 2) inRam ∧
      Reaches .read .long inRam (inRam.reg 2) 0x0C001000) :=
  ⟨⟨by decide, by decide, by decide +kernel, by decide +kernel⟩,
   ⟨by decide, by decide, fun _ => by decide +kernel, reaches_of_check (by decide +kernel)⟩⟩

/-- StatusAndBankWrites, FlagAndIdleInstructions, ReturnFromException and TrapInstructions. -/
theorem test_witness_system :
    inRam.md = true ∧ Reaches .read .long inRam (inRam.reg 2) 0x0C001000 ∧ inRam.pending = none ∧ inRam.bl = false :=
  ⟨by decide +kernel, reaches_of_check (by decide +kernel), by decide +kernel, by decide +kernel⟩

/-- An exact significand of two bits; and one with bits below it, as `round` requires of a sticky one. -/
theorem test_witness_RoundingIsCorrect :
    IsExact .single false 3 0 3 ∧ IsExact .single true (2 ^ 25) 0 (2 ^ 25 + 1 / 2) := by
  constructor <;> norm_num [IsExact, FpFormat.single]

theorem startable_fp (i : Instr) : Startable i fp := fun _ => by decide +kernel

theorem test_witness_FpArithmeticResults :
    (fpArithForm (.fadd3 2 1 3)).isSome = true ∧ Startable (.fadd3 2 1 3) fp ∧ FpuReady fp ∧ RoundingSet fp ∧
    OperandsExist fp [2, 1, 3] :=
  ⟨by decide, startable_fp _, fpuReady_base.1, fpuReady_base.2.1, fpuReady_base.2.2 _⟩

/-- FpCompareResults, FpRootAndAccumulateResults and FpConversionResults, in either precision. -/
theorem test_witness_fp_operands :
    (FpuReady fp ∧ RoundingSet fp ∧ OperandsExist fp [2, 1] ∧ fp.prec = false) ∧
    (FpuReady fpDouble ∧ RoundingSet fpDouble ∧ OperandsExist fpDouble [2, 1] ∧ fpDouble.prec = true) :=
  ⟨⟨fpuReady_base.1, fpuReady_base.2.1, fpuReady_base.2.2 _, by decide +kernel⟩,
   ⟨fpuReady_double.1, fpuReady_double.2.1, fpuReady_double.2.2 _, by decide +kernel⟩⟩

theorem test_witness_FpSignAndConstantResults :
    (fpBitForm fp (.fabs 1)).isSome = true ∧ FpuReady fp ∧ RoundingSet fp ∧ OperandsExist fp [1] :=
  ⟨by decide +kernel, fpuReady_base.1, fpuReady_base.2.1, fpuReady_base.2.2 _⟩

theorem test_witness_FpMoveResults :
    (FpuReady fp ∧ fp.sz = false ∧ fp.pending = none) ∧
    (FpuReady fpPair ∧ fpPair.sz = true ∧ PairExists fpPair 3 ∧ PairExists fpPair 1) :=
  ⟨⟨fpuReady_base.1, by decide +kernel, by decide +kernel⟩,
   ⟨fpuReady_pair.1, by decide +kernel, fpuReady_pair.2 3, fpuReady_pair.2 1⟩⟩

theorem fpuReady_inRam : FpuReady inRam ∧ FpuReady fpInRam ∧ ∀ r, PairExists fpInRam r :=
  ⟨⟨⟨by decide +kernel, by decide +kernel⟩, fun h => absurd h (by decide +kernel)⟩,
   ⟨⟨by decide +kernel, by decide +kernel⟩, fun h => absurd h (by decide +kernel)⟩, fun _ h =>
     absurd h (by decide +kernel)⟩

theorem test_witness_FpLoadResults :
    (fpLoadForm inRam (.fmovLoadInd 2 1) = some ⟨1, ram, none⟩ ∧ Startable (.fmovLoadInd 2 1) inRam ∧
      FpuReady inRam ∧ (Instr.fmovLoadInd 2 1).operandsDefined = true ∧ inRam.sz = false ∧
      Reaches .read .long inRam ram 0x0C001000) ∧
    (fpLoadForm fpInRam (.fmovLoadPostInc 2 1) = some ⟨1, ram, some (2, ram + 8)⟩ ∧
      Startable (.fmovLoadPostInc 2 1) fpInRam ∧ FpuReady fpInRam ∧ fpInRam.sz = true ∧ PairExists fpInRam 1 ∧
      ReachesPair .read fpInRam ram 0x0C001000 0x0C001004) :=
  ⟨⟨by decide +kernel, startable_inRam _, fpuReady_inRam.1, by decide, by decide +kernel,
    reaches_of_check (by decide +kernel)⟩,
   ⟨by decide +kernel, fun _ => by decide +kernel, fpuReady_inRam.2.1, by decide +kernel, fpuReady_inRam.2.2 1,
    reachesPair_of_check (by decide +kernel)⟩⟩

theorem test_witness_FpStoreResults :
    (fpStoreForm inRam (.fmovStorePreDec 1 2) = some ⟨1, ram - 4, some (2, ram - 4)⟩ ∧
      Startable (.fmovStorePreDec 1 2) inRam ∧ FpuReady inRam ∧ (Instr.fmovStorePreDec 1 2).operandsDefined = true ∧
      inRam.sz = false ∧ Reaches .write .long inRam (ram - 4) 0x0C000FFC) ∧
    (fpStoreForm fpInRam (.fmovStoreInd 1 2) = some ⟨1, ram, none⟩ ∧ Startable (.fmovStoreInd 1 2) fpInRam ∧
      FpuReady fpInRam ∧ fpInRam.sz = true ∧ PairExists fpInRam 1 ∧
      ReachesPair .write fpInRam ram 0x0C001000 0x0C001004) :=
  ⟨⟨by decide +kernel, startable_inRam _, fpuReady_inRam.1, by decide, by decide +kernel,
    reaches_of_check (by decide +kernel)⟩,
   ⟨by decide +kernel, fun _ => by decide +kernel, fpuReady_inRam.2.1, by decide +kernel, fpuReady_inRam.2.2 1,
    reachesPair_of_check (by decide +kernel)⟩⟩

theorem test_witness_FpModeResults :
    (fpModeBit fp (.psetmd 1) 0).isSome = true ∧ FpuOn fp ∧ BankSelectable fp (.psetmd 1) :=
  ⟨by decide +kernel, fpuReady_base.1.1, fun h => absurd h (by decide +kernel)⟩

/-- The boundaries of LDHF16's and STHF16's cases (45_fpu.md R537, R539): the smallest and largest normal halves, the
first single above the largest, and the immediates on either side that stop. -/
theorem test_witness_HalfPrecisionResults :
    run 0x8E04 0x8A00 fp (·.fpul) = some 0x38800000 ∧ run 0x8E7B 0x8AFF fp (·.fpul) = some 0x477FE000 ∧
    run 0x8E03 0x8AFF fp (·.fpul) = none ∧ run 0x8E7C 0x8A00 fp (·.fpul) = none ∧
    run 0x4161 0 { fp with fpul := 0x47800000 } (·.reg 1) = some 0x7C00 ∧
    run 0x4161 0 { fp with fpul := 0x38800000 } (·.reg 1) = some 0x0400 := by decide +kernel

end Sys2Proof.Tests

end
end

section
/-! PROOF. What one step can do, said once. An instruction completes by a sequence of the model's named updates, the
supervisor's ones in supervisor mode only, or ends in trap entry, before which it has changed nothing but the model's
own records. A step is a reset, an accepted interrupt, or that. An invariant of the machine then needs one case for
each update. -/

namespace Sys2Proof.Machine

/-! ### The updates a step is made of -/

/-- Nothing but the model's own records differs: free values have been drawn and device accesses recorded
(log 9, log 43). -/
def OnlyRecords (s t : State) : Prop :=
  ∃ n l, t = { s with free := n, devLog := l ++ s.devLog } ∧ s.free ≤ n

/-- One named update of the state, under the condition the meanings make it under. -/
inductive Update (s : State) : State → Prop
  | records {t : State} (h : OnlyRecords s t) : Update s t
  | advance {n : Word} : Update s (s.advance n)
  | jump {x : Word} : Update s (s.jump x)
  | delay {n x : Word} : Update s (s.delay n x)
  | setReg {r : Reg} {v : Word} : Update s (s.setReg r v)
  | setT {b : Bool} : Update s (s.setT b)
  | setS {b : Bool} : Update s (s.setS b)
  | setQMT {q m t : Bool} : Update s (s.setQMT q m t)
  | setMac {p : DWord} : Update s (setMac p s)
  | setMach {v : Word} : Update s (s.setMach v)
  | setMacl {v : Word} : Update s (s.setMacl v)
  | setPr {v : Word} : Update s (s.setPr v)
  | setGbr {v : Word} : Update s (s.setGbr v)
  | setFpul {v : Word} : Update s (s.setFpul v)
  | setFpscr {v : Word} : Update s (s.setFpscr v)
  | setFr {r : FReg} {v : Word} : Update s (s.setFr r v)
  | setDr {r : FReg} {v : DWord} : Update s (s.setDr r v)
  | memoryWrite {pa : Nat} {w : Width} {v : Word} : Update s (s.memoryWrite pa w v)
  | invalidate {pa : Word} : Update s (s.invalidate pa)
  | setMmr {r : Mmr} {v : Word} (hmd : s.md = true)
      (hv : r = .mmucr → v &&& ~~~mmucrMask = 0 ∧ (v.getLsbD 0 = true → s.cfg.hasMmu = true)) :
      Update s (s.setMmr r v)
  | setSr {v : Word} (hmd : s.md = true) : Update s (s.setSr v)
  | setVbr {v : Word} (hmd : s.md = true) : Update s (s.setVbr v)
  | setSsr {v : Word} (hmd : s.md = true) : Update s (s.setSsr v)
  | setSpc {v : Word} (hmd : s.md = true) : Update s (s.setSpc v)
  | setSgr {v : Word} (hmd : s.md = true) : Update s (s.setSgr v)
  | setDbr {v : Word} (hmd : s.md = true) : Update s (s.setDbr v)
  | setOtherBank {b : BReg} {v : Word} (hmd : s.md = true) : Update s (s.setOtherBank b v)
  | sleep (hmd : s.md = true) : Update s { s with asleep := true }
  | returnFromException (hmd : s.md = true) : Update s (returnFromException s)

/-- A sequence of updates. -/
abbrev Updates : State → State → Prop := Relation.ReflTransGen Update

/-- Trap entry, with nothing but the model's own records changed before it (60_exceptions.md R610, R616). -/
def TrapTaken (s t : State) : Prop := ∃ e u, OnlyRecords s u ∧ u.bl = false ∧ t = enterException e u

/-- An answer that is no trap: any next state is reached by updates. -/
def Completes (s : State) (r : Res) : Prop := ∀ t, r = .next t → Updates s t

/-- An answer of a meaning: any next state is reached by updates, or is trap entry. -/
def Runs (s : State) (r : Res) : Prop := ∀ t, r = .next t → Updates s t ∨ TrapTaken s t

/-- An access relates the state before it to the one after it by `R`, and one that raises has changed only records. -/
structure Access.Makes {α : Type} (R : State → State → Prop) (s : State) (x : Access α) : Prop where
  ok : ∀ a t, x = .ok a t → R s t
  exc : ∀ e t, x = .exc e t → OnlyRecords s t

section
variable {α β : Type} {s t u : State} {r k a b : Res} {R : State → State → Prop}

/-! ### The model's own records -/

theorem OnlyRecords.refl : OnlyRecords s s := ⟨s.free, [], rfl, le_rfl⟩

theorem OnlyRecords.drawn : OnlyRecords s s.drawn := ⟨s.free + 1, [], rfl, Nat.le_succ _⟩

theorem OnlyRecords.deviceRead {pa : Nat} {w : Width} : OnlyRecords s (s.deviceRead pa w) :=
  ⟨s.free + 1, [_], rfl, Nat.le_succ _⟩

theorem OnlyRecords.deviceWrite {pa : Nat} {w : Width} {v : Word} : OnlyRecords s (s.deviceWrite pa w v) :=
  ⟨s.free, [_], rfl, le_rfl⟩

theorem OnlyRecords.trans (h : OnlyRecords s u) (h' : OnlyRecords u t) : OnlyRecords s t := by
  obtain ⟨n, l, rfl, hn⟩ := h
  obtain ⟨n', l', rfl, hn'⟩ := h'
  exact ⟨n', l' ++ l, by rw [List.append_assoc], hn.trans hn'⟩

theorem OnlyRecords.of_eq_or_drawn (h : t = s ∨ t = s.drawn) : OnlyRecords s t := by
  rcases h with rfl | rfl
  · exact .refl
  · exact .drawn

theorem OnlyRecords.md_eq (h : OnlyRecords s t) : t.md = s.md := by
  obtain ⟨n, l, rfl, -⟩ := h
  rfl

theorem OnlyRecords.updates (h : OnlyRecords s t) : Updates s t := .single (.records h)

theorem updates_of_records (h : OnlyRecords s u) (h' : Updates u t) : Updates s t := .head (.records h) h'

/-! ### Answers -/

theorem completes_next (h : Updates s t) : Completes s (.next t) := by
  rintro _ ⟨⟩
  exact h

theorem completes_done16 (h : Updates s u) : Completes s (done16 u) := completes_next (h.tail .advance)

theorem completes_done32 (h : Updates s u) : Completes s (done32 u) := completes_next (h.tail .advance)

theorem Completes.of_updates (h : Completes u r) (hu : Updates s u) : Completes s r :=
  fun t ht => hu.trans (h t ht)

theorem Completes.runs (h : Completes s r) : Runs s r := fun t ht => .inl (h t ht)

theorem runs_next (h : Updates s t) : Runs s (.next t) := (completes_next h).runs

theorem runs_done16 (h : Updates s u) : Runs s (done16 u) := (completes_done16 h).runs

theorem runs_done32 (h : Updates s u) : Runs s (done32 u) := (completes_done32 h).runs

theorem runs_refused {q : Refusal} : Runs s (.refused q) := fun _ h => by cases h

theorem runs_raise_of_records {e : Exc} (h : OnlyRecords s u) : Runs s (raise e u) := fun t ht => by
  obtain ⟨hbl, rfl⟩ := raise_eq_next.mp ht
  exact .inr ⟨e, u, h, hbl, rfl⟩

theorem runs_raise {e : Exc} : Runs s (raise e s) := runs_raise_of_records .refl

theorem Runs.of_records (h : Runs u r) (hu : OnlyRecords s u) : Runs s r := fun t ht => by
  rcases h t ht with h | ⟨e, v, hv, hbl, rfl⟩
  · exact .inl (updates_of_records hu h)
  · exact .inr ⟨e, v, hu.trans hv, hbl, rfl⟩

theorem runs_ite {c : Prop} [Decidable c] (ha : Runs s a) (hb : Runs s b) : Runs s (if c then a else b) := by
  split
  · exact ha
  · exact hb

/-! ### The checks every meaning shares -/

theorem runs_notInSlot (h : Runs s k) : Runs s (notInSlot s k) := runs_ite runs_raise h

/-- What a privileged instruction does, it does in supervisor mode (60_exceptions.md R630). -/
theorem runs_privileged (h : s.md = true → Runs s k) : Runs s (privileged s k) := by
  unfold privileged
  split
  · next hmd => exact h hmd
  · exact runs_ite runs_raise runs_raise

theorem runs_fpuGated (h : Runs s k) : Runs s (fpuGated s k) := runs_ite (runs_ite runs_raise runs_raise) h

theorem runs_fpuBanked (h : Runs s k) : Runs s (fpuBanked s k) := runs_fpuGated (runs_ite runs_refused h)

theorem runs_pairPresent {x : FReg} (h : Runs s k) : Runs s (pairPresent s x k) := runs_ite runs_refused h

theorem runs_roundingDefined (h : Runs s k) : Runs s (roundingDefined s k) := runs_ite runs_refused h

theorem runs_indexed {ro : Reg} (h : Runs s k) : Runs s (indexed ro k) := runs_ite runs_refused h

theorem runs_leaIndexed {ro : Reg} (h : Runs s k) : Runs s (leaIndexed ro k) := runs_ite runs_refused h

/-! ### Access to memory -/

/-- An access in two parts, of which the first changes only records. -/
theorem Access.Makes.bind {x : Access α} {k : α → State → Access β} (hx : x.Makes OnlyRecords s)
    (hR : ∀ {s u t}, OnlyRecords s u → R u t → R s t) (hk : ∀ a u, x = .ok a u → (k a u).Makes R u) :
    (x.bind k).Makes R s where
  ok b t h := by
    obtain ⟨a, u, hxa, hka⟩ := Access.bind_eq_ok.mp h
    exact hR (hx.ok a u hxa) ((hk a u hxa).ok b t hka)
  exc e t h := by
    rcases Access.bind_eq_exc.mp h with hxe | ⟨a, u, hxa, hke⟩
    · exact hx.exc e t hxe
    · exact (hx.ok a u hxa).trans ((hk a u hxa).exc e t hke)

/-- An instruction that completes once its access has. -/
theorem runs_andThen {x : Access α} {k : α → State → Res} (hx : x.Makes Updates s)
    (hk : ∀ a u, x = .ok a u → Completes u (k a u)) : Runs s (x.andThen k) := fun t ht => by
  rcases Access.andThen_eq_next.mp ht with ⟨a, u, hxa, hka⟩ | ⟨e, u, hxe, hr⟩
  · exact .inl ((hx.ok a u hxa).trans (hk a u hxa t hka))
  · exact runs_raise_of_records (hx.exc e u hxe) t hr

/-- After an access that changes only records, an instruction may still trap. -/
theorem runs_andThen_of_records {x : Access α} {k : α → State → Res} (hx : x.Makes OnlyRecords s)
    (hk : ∀ a u, x = .ok a u → Runs u (k a u)) : Runs s (x.andThen k) := fun t ht => by
  rcases Access.andThen_eq_next.mp ht with ⟨a, u, hxa, hka⟩ | ⟨e, u, hxe, hr⟩
  · exact (hk a u hxa).of_records (hx.ok a u hxa) t hka
  · exact runs_raise_of_records (hx.exc e u hxe) t hr

theorem Access.Makes.updates {x : Access α} (hx : x.Makes OnlyRecords s) : x.Makes Updates s :=
  ⟨fun a t h => (hx.ok a t h).updates, hx.exc⟩

variable {kind : AccessKind} {md : Bool} {w : Width} {va v : Word} {p : Place}

theorem locate_makes : (locate kind md w va s).Makes OnlyRecords s :=
  ⟨fun _ _ h => .of_eq_or_drawn (locate_state h), fun _ _ h => .of_eq_or_drawn (locate_exc_state h)⟩

theorem resolve_makes : (resolve kind md w va s).Makes OnlyRecords s :=
  ⟨fun _ _ h => .of_eq_or_drawn (resolve_state h), fun _ _ h => .of_eq_or_drawn (resolve_exc_state h).2⟩

theorem fetch_makes : (fetch md va s).Makes OnlyRecords s :=
  ⟨fun _ _ h => fetch_state h, fun _ _ h => resolve_makes.exc _ _ (fetch_eq_exc.mp h)⟩

theorem readPlace_makes : (readPlace w p s).Makes OnlyRecords s where
  ok _ _ h := by
    rcases readPlace_eq_ok h with ⟨_, _, _, rfl⟩ | ⟨_, _, _, rfl⟩ | ⟨_, _, _, rfl⟩
    · exact .refl
    · exact .deviceRead
    · exact .refl
  exc _ _ h := absurd h readPlace_ne_exc

/-- A memory-mapped register is reached, and so written, in supervisor mode only (10_state.md R45). -/
theorem writePlace_makes (hp : ∀ r, p = .register r → s.md = true) : (writePlace w v p s).Makes Updates s where
  ok _ _ h := by
    rcases writePlace_eq_ok h with ⟨_, _, rfl⟩ | ⟨_, _, rfl⟩ | ⟨r, hr, rfl, hv⟩
    · exact .single .memoryWrite
    · exact OnlyRecords.deviceWrite.updates
    · exact .single (.setMmr (hp r hr) hv)
  exc _ _ h := absurd h writePlace_ne_exc

theorem md_of_resolve_register (h : resolve kind s.md w va s = .ok p u) : ∀ r, p = .register r → s.md = true := by
  rintro r rfl
  by_contra hmd
  rw [Bool.not_eq_true] at hmd
  exact resolve_user_ne_register (hmd ▸ h)

theorem writePlace_md (h : writePlace w v p s = .ok () u) : u.md = s.md := by
  rcases writePlace_eq_ok h with ⟨_, _, rfl⟩ | ⟨_, _, rfl⟩ | ⟨_, _, rfl, _⟩ <;> rfl

theorem memRead_makes : (memRead w va s).Makes OnlyRecords s :=
  resolve_makes.bind OnlyRecords.trans fun _ _ _ => readPlace_makes

theorem memWrite_makes : (memWrite w va v s).Makes Updates s :=
  resolve_makes.bind updates_of_records fun _ _ h => writePlace_makes fun r hr => by
    rw [(resolve_makes.ok _ _ h).md_eq]
    exact md_of_resolve_register h r hr

theorem pairRead_makes : (pairRead va s).Makes OnlyRecords s :=
  resolve_makes.bind OnlyRecords.trans fun _ _ _ => resolve_makes.bind OnlyRecords.trans fun _ _ _ =>
    readPlace_makes.bind OnlyRecords.trans fun _ _ _ => readPlace_makes.bind OnlyRecords.trans fun _ _ _ =>
      ⟨fun _ _ h => by cases h; exact .refl, fun _ _ h => by cases h⟩

/-- Two writes, of which neither raises. -/
theorem writePlace_bind_makes {q : Place} {v' : State → Word} (hp : ∀ r, p = .register r → s.md = true)
    (hq : ∀ r, q = .register r → s.md = true) :
    ((writePlace w v p s).bind fun _ s => writePlace w (v' s) q s).Makes Updates s where
  ok _ _ h := by
    obtain ⟨_, u, hw, hw'⟩ := Access.bind_eq_ok.mp h
    exact ((writePlace_makes hp).ok _ _ hw).trans
      ((writePlace_makes fun r hr => (writePlace_md hw).trans (hq r hr)).ok _ _ hw')
  exc _ _ h := by
    rcases Access.bind_eq_exc.mp h with hw | ⟨_, _, _, hw⟩
    · exact absurd hw writePlace_ne_exc
    · exact absurd hw writePlace_ne_exc

theorem pairWrite_makes {x : DWord} : (pairWrite va x s).Makes Updates s :=
  resolve_makes.bind updates_of_records fun _ _ h => resolve_makes.bind updates_of_records fun _ _ h' => by
    have hmd := (resolve_makes.ok _ _ h).md_eq
    have hmd' := (resolve_makes.ok _ _ h').md_eq
    exact writePlace_bind_makes (fun r hr => by rw [hmd', hmd]; exact md_of_resolve_register h r hr)
      fun r hr => by rw [hmd']; exact md_of_resolve_register h' r hr

/-! ### The shapes that several instructions share -/

variable {rm rn : Reg} {x : Word} {c : Bool}

theorem runs_toReg16 : Runs s (toReg16 rn v s) := runs_done16 (.single .setReg)

theorem runs_toReg32 : Runs s (toReg32 rn v s) := runs_notInSlot (runs_done32 (.single .setReg))

theorem runs_toT16 : Runs s (toT16 c s) := runs_done16 (.single .setT)

theorem runs_toT32 : Runs s (toT32 c s) := runs_notInSlot (runs_done32 (.single .setT))

theorem runs_toRegT16 : Runs s (toRegT16 rn v c s) := runs_done16 (.tail (.single .setReg) .setT)

theorem runs_load16 : Runs s (load16 w va rn s) :=
  runs_andThen memRead_makes.updates fun _ _ _ => completes_done16 (.single .setReg)

theorem runs_load32 : Runs s (load32 w va rn s) :=
  runs_andThen memRead_makes.updates fun _ _ _ => completes_done32 (.single .setReg)

theorem runs_loadZero32 : Runs s (loadZero32 w va rn s) :=
  runs_andThen memRead_makes.updates fun _ _ _ => completes_done32 (.single .setReg)

theorem runs_loadPostInc : Runs s (loadPostInc w rm rn s) :=
  runs_andThen memRead_makes.updates fun _ _ _ => completes_done16 (.tail (.single .setReg) .setReg)

theorem runs_loadPreDec : Runs s (loadPreDec w rm s) :=
  runs_andThen memRead_makes.updates fun _ _ _ => completes_done16 (.tail (.single .setReg) .setReg)

theorem runs_store16 : Runs s (store16 w va v s) := runs_andThen memWrite_makes fun _ _ _ => completes_done16 .refl

theorem runs_store32 : Runs s (store32 w va v s) := runs_andThen memWrite_makes fun _ _ _ => completes_done32 .refl

theorem runs_storePreDec : Runs s (storePreDec w v rn s) :=
  runs_andThen memWrite_makes fun _ _ _ => completes_done16 (.single .setReg)

theorem runs_storePostInc : Runs s (storePostInc w rn s) :=
  runs_andThen memWrite_makes fun _ _ _ => completes_done16 (.single .setReg)

/-- The register is written in the mode the instruction began in. -/
theorem runs_popTo {set : Word → State → State} (hset : ∀ v u, u.md = s.md → Update u (set v u)) :
    Runs s (popTo set rm s) :=
  runs_andThen memRead_makes.updates fun _ u h =>
    completes_done16 (.tail (.single .setReg) (hset _ _ (memRead_makes.ok _ u h).md_eq))

theorem runs_compareAndSwap : Runs s (compareAndSwap rm rn s) :=
  runs_andThen_of_records resolve_makes fun p u h => runs_andThen_of_records readPlace_makes fun old u' h' => by
    have casResult_completes : ∀ c v, Completes v (casResult old c rn v) :=
      fun _ _ => completes_done16 (.tail (.single .setReg) .setT)
    have hmd : u'.md = s.md := (readPlace_makes.ok _ _ h').md_eq.trans (resolve_makes.ok _ _ h).md_eq
    exact runs_ite
      (runs_andThen (writePlace_makes fun r hr => hmd.trans (md_of_resolve_register h r hr))
        fun _ _ _ => casResult_completes _ _)
      (casResult_completes _ _).runs

theorem runs_prefetch : Runs s (prefetch va s) :=
  runs_ite
    (.of_records (runs_andThen locate_makes.updates fun _ _ _ => completes_done16 .refl) .drawn)
    (runs_done16 OnlyRecords.drawn.updates)

theorem runs_invalidateFetch : Runs s (invalidateFetch va s) := by
  refine runs_ite
    (.of_records (runs_andThen locate_makes.updates fun _ _ _ => completes_done16 (.single .invalidate)) .drawn) ?_
  split
  · exact runs_done16 (OnlyRecords.drawn.updates.tail .invalidate)
  · exact runs_done16 OnlyRecords.drawn.updates

theorem runs_branchIf16 : Runs s (branchIf16 c x s) := runs_ite (runs_next (.single .jump)) (runs_done16 .refl)

theorem runs_branchIf32 : Runs s (branchIf32 c x s) := runs_ite (runs_next (.single .jump)) (runs_done32 .refl)

/-! ### The shapes of the floating-point instructions -/

variable {f g h : FReg} {fin : State → Res}

theorem updates_setFr_drawn : Updates s (s.setFr f v).drawn := .tail (.single .setFr) (.records .drawn)

theorem updates_setDr_drawn {d : DWord} : Updates s (s.setDr f d).drawn := .tail (.single .setDr) (.records .drawn)

theorem updates_setFpul_drawn : Updates s (s.setFpul v).drawn := .tail (.single .setFpul) (.records .drawn)

theorem runs_arith {op : FpOp} (hfin : ∀ u, Completes u (fin u)) : Runs s (arith op f g h fin s) :=
  runs_roundingDefined (runs_ite
    (runs_pairPresent (runs_pairPresent (runs_pairPresent ((hfin _).of_updates updates_setDr_drawn).runs)))
    ((hfin _).of_updates updates_setFr_drawn).runs)

theorem runs_compare {rel : FpFormat → Bool → Nat → Nat → Bool} : Runs s (compare rel f g s) :=
  runs_roundingDefined (runs_ite (runs_pairPresent (runs_pairPresent runs_toT16)) runs_toT16)

theorem runs_onSign {op : Word → Word} : Runs s (onSign op f s) :=
  runs_roundingDefined (runs_ite (runs_pairPresent (runs_done16 (.single .setDr))) (runs_done16 (.single .setFr)))

theorem runs_squareRoot : Runs s (squareRoot f s) :=
  runs_roundingDefined
    (runs_ite (runs_pairPresent (runs_done16 updates_setDr_drawn)) (runs_done16 updates_setFr_drawn))

theorem runs_multiplyAccumulate : Runs s (multiplyAccumulate f g s) :=
  runs_ite runs_refused (runs_roundingDefined (runs_done16 updates_setFr_drawn))

theorem runs_loadConstant {d : DWord} : Runs s (loadConstant x d f s) :=
  runs_roundingDefined (runs_ite (runs_pairPresent (runs_done16 (.single .setDr))) (runs_done16 (.single .setFr)))

theorem runs_intToFloat : Runs s (intToFloat f s) :=
  runs_roundingDefined (runs_ite (runs_pairPresent (runs_done16 (.single .setDr))) (runs_done16 (.single .setFr)))

theorem runs_floatToInt : Runs s (floatToInt f s) :=
  runs_ite (runs_pairPresent (runs_done16 updates_setFpul_drawn)) (runs_done16 updates_setFpul_drawn)

theorem runs_singleToDouble : Runs s (singleToDouble f s) :=
  runs_ite (runs_pairPresent (runs_done16 updates_setDr_drawn)) runs_refused

theorem runs_doubleToSingle : Runs s (doubleToSingle f s) :=
  runs_ite (runs_roundingDefined (runs_pairPresent (runs_done16 updates_setFpul_drawn))) runs_refused

theorem runs_moveFp : Runs s (moveFp f g s) :=
  runs_ite (runs_pairPresent (runs_pairPresent (runs_done16 (.single .setDr)))) (runs_done16 (.single .setFr))

theorem runs_fpLoad (hfin : ∀ u, Completes u (fin u)) : Runs s (fpLoad f va fin s) :=
  runs_ite
    (runs_pairPresent (runs_andThen pairRead_makes.updates fun _ _ _ => (hfin _).of_updates (.single .setDr)))
    (runs_andThen memRead_makes.updates fun _ _ _ => (hfin _).of_updates (.single .setFr))

theorem runs_fpStore (hfin : ∀ u, Completes u (fin u)) : Runs s (fpStore f va fin s) :=
  runs_ite (runs_pairPresent (runs_andThen pairWrite_makes fun _ _ _ => hfin _))
    (runs_andThen memWrite_makes fun _ _ _ => hfin _)

theorem runs_loadHalf {n : Half} : Runs s (loadHalf n s) :=
  runs_ite (runs_done16 (.single .setFpul))
    (runs_ite (runs_ite (runs_done16 (.single .setFpul)) (runs_done16 updates_setFpul_drawn))
      (runs_done16 (.single .setFpul)))

theorem runs_loadHalfImmediate {n : Half} : Runs s (loadHalfImmediate n s) :=
  runs_ite runs_refused (runs_done32 (.single .setFpul))

theorem runs_storeHalf : Runs s (storeHalf rn s) := runs_done16 (.tail (.single .setReg) (.records .drawn))

theorem runs_setFpMode {imm : BitVec 4} : Runs s (setFpMode imm s) :=
  runs_ite runs_refused (runs_done16 (.single .setFpscr))

theorem runs_swapFpBanks : Runs s (swapFpBanks s) := runs_ite runs_refused (runs_done16 (.single .setFpscr))

end

/-! ### Every instruction -/

/-- What an instruction can do: the updates of its shape, or a trap. -/
theorem exec_runs (i : Instr) (s : State) : Runs s (exec i s) := by
  cases i with
  -- Register and flag forms.
  | stcSr | stcVbr | stcSsr | stcSpc | stcBank | stcSgr | stcDbr => exact runs_privileged fun _ => runs_toReg16
  | stcGbr | movt | movrt | stsMach | stsMacl | stsPr | and | xor | or | xtrct | sub | add | shll4 | shlr4 | shll2
  | shll8 | shll16 | shlr2 | shlr8 | shlr16 | shad | shld | mov | not | swapB | swapW | neg | extuB | extuW | extsB
  | extsW | addImm8 | andImm8 | xorImm8 | orImm8 | movImm8 => exact runs_toReg16
  | leaBPcR0 | mova => exact runs_notInSlot runs_toReg16
  | clrt | sett | nott | tst | cmpStr | cmpEq | cmpHs | cmpGe | cmpHi | cmpGt | cmpPz | cmpPl | cmpEqImm8 | tstImm8 =>
    exact runs_toT16
  | subc | subv | addc | addv | shll | dt | shal | shlr | shar | rotl | rotcl | rotr | rotcr | negc =>
    exact runs_toRegT16
  | movi24 | and3Imm8 | xor3Imm8 | or3Imm8 | mul3Imm8 | mul3NegImm8 | sub3Imm8 | and3NegImm8 | add3Imm8 | add3 | sub3
  | mul3 | and3 | or3 | xor3 | shld3 | shlr3 | shad3 | shar3 | cselt | shad3Imm8 | shld3Imm8 | leaBDisp8 | leaWDisp8
  | leaLDisp8 | leaQDisp8 | addImm16 | ldsh16 | andImm12 | xorImm12 | orImm12 | movImm16 => exact runs_toReg32
  | leaBIdx4 | leaWIdx4 | leaLIdx4 | leaQIdx4 => exact runs_notInSlot (runs_leaIndexed runs_toReg32)
  | cmpEqImm12 | cmpHsImm12 | cmpGeImm12 | cmpHiImm12 | cmpGtImm12 | cmpEqImm16 | tstImm12 => exact runs_toT32
  -- Loads.
  | movBLoadR0Idx | movWLoadR0Idx | movLLoadR0Idx | movLLoadDisp4 | movBLoadInd | movWLoadInd | movLLoadInd
  | movBLoadR0Disp4 | movWLoadR0Disp4 | movBLoadGbr8 | movWLoadGbr8 | movLLoadGbr8 => exact runs_load16
  | movBLoadPcR0 | movWLoadPcR0 | movLLoadPcR0 | movWLoadPcDisp | movLLoadPcDisp => exact runs_notInSlot runs_load16
  | movBLoadR0PreDec | movWLoadR0PreDec | movLLoadR0PreDec => exact runs_loadPreDec
  | movBLoadPostInc | movWLoadPostInc | movLLoadPostInc => exact runs_loadPostInc
  | movBLoadIdx4 | movWLoadIdx4 | movLLoadIdx4 | movLLoadIdx8 => exact runs_notInSlot (runs_indexed runs_load32)
  | movBLoadDisp8 | movWLoadDisp8 | movLLoadDisp8 | movBLoadGbr12 | movWLoadGbr12 | movLLoadGbr12 =>
    exact runs_notInSlot runs_load32
  | movuBLoadIdx | movuWLoadIdx => exact runs_notInSlot (runs_indexed runs_loadZero32)
  | movuBLoadDisp8 | movuWLoadDisp8 => exact runs_notInSlot runs_loadZero32
  -- Stores.
  | movcaL | movBStoreR0Idx | movWStoreR0Idx | movLStoreR0Idx | movLStoreDisp4 | movBStoreInd | movWStoreInd
  | movLStoreInd | movBStoreR0Disp4 | movWStoreR0Disp4 | movBStoreGbr8 | movWStoreGbr8 | movLStoreGbr8 =>
    exact runs_store16
  | movBStorePcR0 | movWStorePcR0 | movLStorePcR0 => exact runs_notInSlot runs_store16
  | movBStorePreDec | movWStorePreDec | movLStorePreDec | stslMach | stslMacl | stslPr | stclGbr =>
    exact runs_storePreDec
  | stclSgr | stclDbr | stclSr | stclVbr | stclSsr | stclSpc | stclBank =>
    exact runs_privileged fun _ => runs_storePreDec
  | movBStoreR0PostInc | movWStoreR0PostInc | movLStoreR0PostInc => exact runs_storePostInc
  | movBStoreIdx4 | movWStoreIdx4 | movLStoreIdx4 | movLStoreIdx8 => exact runs_notInSlot (runs_indexed runs_store32)
  | movBStoreDisp8 | movWStoreDisp8 | movLStoreDisp8 | movBStoreGbr12 | movWStoreGbr12 | movLStoreGbr12 =>
    exact runs_notInSlot runs_store32
  -- Branches (43_branch.md).
  | bsrf | jsr | bsr => exact runs_notInSlot (runs_next (.tail (.single .setPr) .delay))
  | braf | rts | jmp | btS8 | bfS8 | bra | btS16 | bfS16 => exact runs_notInSlot (runs_next (.single .delay))
  | rtsN | braN8 | braN16 => exact runs_notInSlot (runs_next (.single .jump))
  | jsrN | bsrN16 => exact runs_notInSlot (runs_next (.tail (.single .setPr) .jump))
  | bt8 | bf8 => exact runs_notInSlot runs_branchIf16
  | bt16 | bf16 => exact runs_notInSlot runs_branchIf32
  -- Accesses of their own shape.
  | pref => exact runs_prefetch
  | icbi => exact runs_invalidateFetch
  | casL => exact runs_compareAndSwap
  -- MACH and MACL, the divide step, system and control registers, traps.
  | mulL | muluW | mulsW | ldsMacl => exact runs_done16 (.single .setMacl)
  | ldtlb => exact runs_privileged fun _ => runs_done16 .refl
  | clrs | sets => exact runs_done16 (.single .setS)
  | nop => exact runs_done16 .refl
  | div0u | div0s => exact runs_done16 (.single .setQMT)
  | div1 => exact runs_done16 (.tail (.single .setReg) .setQMT)
  | dmuluL | dmulsL => exact runs_done16 (.single .setMac)
  | ldsMach => exact runs_done16 (.single .setMach)
  | ldsPr => exact runs_done16 (.single .setPr)
  | ldcSgr => exact runs_privileged fun hmd => runs_done16 (.single (.setSgr hmd))
  | ldcDbr => exact runs_privileged fun hmd => runs_done16 (.single (.setDbr hmd))
  | ldcSr => exact runs_privileged fun hmd => runs_done16 (.single (.setSr hmd))
  | ldcGbr => exact runs_done16 (.single .setGbr)
  | ldcVbr => exact runs_privileged fun hmd => runs_done16 (.single (.setVbr hmd))
  | ldcSsr => exact runs_privileged fun hmd => runs_done16 (.single (.setSsr hmd))
  | ldcSpc => exact runs_privileged fun hmd => runs_done16 (.single (.setSpc hmd))
  | ldcBank => exact runs_privileged fun hmd => runs_done16 (.single (.setOtherBank hmd))
  | clrmac => exact runs_done16 (.single (.setMac (p := 0)))
  | sleep => exact runs_privileged fun hmd => runs_next (.tail (.single .advance) (.sleep hmd))
  | rte => exact runs_notInSlot (runs_privileged fun hmd => runs_next (.single (.returnFromException hmd)))
  | brk => exact runs_raise
  | trapa => exact runs_notInSlot runs_raise
  -- Special registers popped from memory.
  | ldslMach => exact runs_popTo fun _ _ _ => .setMach
  | ldslMacl => exact runs_popTo fun _ _ _ => .setMacl
  | ldslPr => exact runs_popTo fun _ _ _ => .setPr
  | ldclSgr => exact runs_privileged fun hmd => runs_popTo fun _ _ hu => .setSgr (hu.trans hmd)
  | ldclDbr => exact runs_privileged fun hmd => runs_popTo fun _ _ hu => .setDbr (hu.trans hmd)
  | ldclSr => exact runs_privileged fun hmd => runs_popTo fun _ _ hu => .setSr (hu.trans hmd)
  | ldclGbr => exact runs_popTo fun _ _ _ => .setGbr
  | ldclVbr => exact runs_privileged fun hmd => runs_popTo fun _ _ hu => .setVbr (hu.trans hmd)
  | ldclSsr => exact runs_privileged fun hmd => runs_popTo fun _ _ hu => .setSsr (hu.trans hmd)
  | ldclSpc => exact runs_privileged fun hmd => runs_popTo fun _ _ hu => .setSpc (hu.trans hmd)
  | ldclBank => exact runs_privileged fun hmd => runs_popTo fun _ _ hu => .setOtherBank (hu.trans hmd)
  -- Floating point.
  | stsFpul | stsFpscr => exact runs_fpuGated runs_toReg16
  | sthf16 => exact runs_fpuGated runs_storeHalf
  | ldhf16 => exact runs_fpuGated runs_loadHalf
  | fmovStorePcR0 => exact runs_notInSlot (runs_fpuBanked (runs_fpStore fun _ => completes_done16 .refl))
  | fmovStoreR0Idx | fmovStoreInd => exact runs_fpuBanked (runs_fpStore fun _ => completes_done16 .refl)
  | fmovStorePreDec => exact runs_fpuBanked (runs_fpStore fun _ => completes_done16 (.single .setReg))
  | fmovStoreDisp8 => exact runs_notInSlot (runs_fpuBanked (runs_fpStore fun _ => completes_done32 .refl))
  | fmovStoreIdx =>
    exact runs_notInSlot (runs_fpuBanked (runs_indexed (runs_fpStore fun _ => completes_done32 .refl)))
  | stslFpul | stslFpscr => exact runs_fpuGated runs_storePreDec
  | fmovLoadPcR0 => exact runs_notInSlot (runs_fpuBanked (runs_fpLoad fun _ => completes_done16 .refl))
  | fmovLoadR0Idx | fmovLoadInd => exact runs_fpuBanked (runs_fpLoad fun _ => completes_done16 .refl)
  | fmovLoadPostInc => exact runs_fpuBanked (runs_fpLoad fun _ => completes_done16 (.single .setReg))
  | fmovLoadDisp8 => exact runs_notInSlot (runs_fpuBanked (runs_fpLoad fun _ => completes_done32 .refl))
  | fmovLoadIdx => exact runs_notInSlot (runs_fpuBanked (runs_indexed (runs_fpLoad fun _ => completes_done32 .refl)))
  | ldslFpul => exact runs_fpuGated (runs_popTo fun _ _ _ => .setFpul)
  | ldslFpscr => exact runs_fpuGated (runs_popTo fun _ _ _ => .setFpscr)
  | ldsFpul => exact runs_fpuGated (runs_done16 (.single .setFpul))
  | ldsFpscr | fschg | fpchg => exact runs_fpuGated (runs_done16 (.single .setFpscr))
  | fsts => exact runs_fpuBanked (runs_done16 (.single .setFr))
  | flds => exact runs_fpuBanked (runs_done16 (.single .setFpul))
  | fadd | fsub | fmul | fdiv => exact runs_fpuBanked (runs_arith fun _ => completes_done16 .refl)
  | fadd3 | fsub3 | fmul3 | fdiv3 =>
    exact runs_notInSlot (runs_fpuBanked (runs_arith fun _ => completes_done32 .refl))
  | fcmpEq | fcmpGt => exact runs_fpuBanked runs_compare
  | fmov => exact runs_fpuBanked runs_moveFp
  | float => exact runs_fpuBanked runs_intToFloat
  | ftrc => exact runs_fpuBanked runs_floatToInt
  | fneg | fabs => exact runs_fpuBanked runs_onSign
  | fsqrt => exact runs_fpuBanked runs_squareRoot
  | fldi0 | fldi1 => exact runs_fpuBanked runs_loadConstant
  | fcnvsd => exact runs_fpuBanked runs_singleToDouble
  | fcnvds => exact runs_fpuBanked runs_doubleToSingle
  | psetmd => exact runs_fpuGated runs_setFpMode
  | frchg => exact runs_fpuGated runs_swapFpBanks
  | fmac => exact runs_fpuBanked runs_multiplyAccumulate
  | ldhf16Imm => exact runs_notInSlot (runs_fpuGated runs_loadHalfImmediate)
  | ldif16 => exact runs_notInSlot (runs_fpuGated (runs_done32 (.single .setFpul)))

/-! ### Every step -/

section
variable {s t : State}

theorem runs_reservedInstruction : Runs s (reservedInstruction s) := runs_ite runs_raise runs_raise

theorem runs_runDecoded (d : Decoded) : Runs s (runDecoded d s) := by
  cases d with
  | instr i => exact exec_runs i s
  | unassigned => exact runs_reservedInstruction
  | outOfScope => exact runs_refused
  | deprecated form => exact runs_refused

theorem runs_runWide {w : Half} {md : Bool} : Runs s (runWide w md s) :=
  runs_notInSlot (runs_andThen_of_records fetch_makes fun _ _ _ => runs_runDecoded _)

theorem runs_runInstruction : Runs s (runInstruction s) :=
  runs_andThen_of_records fetch_makes fun _ _ _ => runs_ite runs_runWide (runs_runDecoded _)

/-- A core that stays asleep makes no update at all. -/
theorem runs_runOrSleep : Runs s (runOrSleep s) := fun t ht => by
  rcases runOrSleep_eq_next.mp ht with ⟨-, -, rfl⟩ | ⟨-, hrun⟩
  · exact .inl .refl
  · exact runs_runInstruction t hrun

/-- What a step can do, once it has consumed the boundary's request: a reset, an accepted interrupt, a sequence of
updates, or a trap (60_exceptions.md R614, R621; 70_reset_and_hazards.md R700). -/
theorem step_cases (h : step s = .next t) :
    (∃ c, s.event = .reset c ∧ t = s.consumed.afterReset c) ∨
    (∃ code, acceptedCode s.consumed s.event = some code ∧ t = enterInterrupt code s.consumed) ∨
    Updates s.consumed t ∨ TrapTaken s.consumed t := by
  unfold step runBoundary at h
  split at h
  · next c hc =>
    cases h
    exact .inl ⟨c, hc, rfl⟩
  · split at h
    · next code hcode =>
      cases h
      exact .inr (.inl ⟨code, hcode, rfl⟩)
    · exact .inr (.inr (runs_runOrSleep t h))

end

end Sys2Proof.Machine
end

section
/-! PROOF. The parameters of 00_scope.md R6, the requests to come and the model's own records, over a step. -/

namespace Sys2Proof.Machine

/-- The parameters and the requests to come are the same, and the model's own records have only grown. -/
structure KeepsParametersAndRecords (s t : State) : Prop where
  cfg : t.cfg = s.cfg
  events : t.events = s.events
  free : s.free ≤ t.free
  devLog : s.devLog <:+ t.devLog

section
variable {s t u : State}

theorem KeepsParametersAndRecords.refl : KeepsParametersAndRecords s s := ⟨rfl, rfl, le_rfl, List.suffix_rfl⟩

theorem KeepsParametersAndRecords.trans (h : KeepsParametersAndRecords s u) (h' : KeepsParametersAndRecords u t) :
    KeepsParametersAndRecords s t :=
  ⟨h'.cfg.trans h.cfg, h'.events.trans h.events, h.free.trans h'.free, h.devLog.trans h'.devLog⟩

theorem OnlyRecords.keepsParametersAndRecords (h : OnlyRecords s t) : KeepsParametersAndRecords s t := by
  obtain ⟨n, l, rfl, hn⟩ := h
  exact ⟨rfl, rfl, hn, List.suffix_append l s.devLog⟩

theorem free_le_setMmr (s : State) (r : Mmr) (v : Word) : s.free ≤ (s.setMmr r v).free := by
  unfold State.setMmr
  by_cases hr : r = .mmucr <;> simp [hr]

/-- Only the records themselves and a write of MMUCR touch what is kept, and both only add to it. -/
theorem Update.keepsParametersAndRecords (h : Update s t) : KeepsParametersAndRecords s t := by
  cases h with
  | records h => exact h.keepsParametersAndRecords
  | setMmr => exact ⟨rfl, rfl, free_le_setMmr .., List.suffix_rfl⟩
  | _ => exact ⟨rfl, rfl, le_rfl, List.suffix_rfl⟩

theorem keepsParametersAndRecords_of_updates (h : Updates s t) : KeepsParametersAndRecords s t := by
  induction h with
  | refl => exact .refl
  | tail _ hlast ih => exact ih.trans hlast.keepsParametersAndRecords

theorem TrapTaken.keepsParametersAndRecords (h : TrapTaken s t) : KeepsParametersAndRecords s t := by
  obtain ⟨e, u, hu, -, rfl⟩ := h
  exact hu.keepsParametersAndRecords.trans ⟨rfl, rfl, le_rfl, List.suffix_rfl⟩

/-- Whatever a step is, it keeps all this of the state that has consumed the boundary's request. -/
theorem step_keepsParametersAndRecords (h : step s = .next t) : KeepsParametersAndRecords s.consumed t := by
  rcases step_cases h with ⟨c, -, rfl⟩ | ⟨code, -, rfl⟩ | hu | htrap
  · exact ⟨rfl, rfl, le_rfl, List.suffix_rfl⟩
  · exact ⟨by simp, by simp, by simp, by simp⟩
  · exact keepsParametersAndRecords_of_updates hu
  · exact htrap.keepsParametersAndRecords

end

/-- Settles O8: each of the four things a step can be keeps the parameters and the requests left, and only adds to the
records; for an instruction, because every update does. -/
theorem stepKeepsParametersAndRecords : Obligations.StepKeepsParametersAndRecords := by
  intro s t h
  obtain ⟨hcfg, hevents, hfree, l, hlog⟩ := step_keepsParametersAndRecords h
  exact ⟨hcfg, hevents, hfree, l, hlog.symm⟩

end Sys2Proof.Machine
end

section
/-! PROOF. The memory-mapped registers, read and written (10_state.md R45; 20_memory.md R100). -/

namespace Sys2Proof.Machine

open Sys2Proof.Safety

section
variable {s t : State} {r q : Mmr} {v w mask : Word} {i n : Nat} {b : Bool}

/-- Setting a bit outside a mask keeps the bits under the mask clear. -/
theorem setBit_and_eq_zero (hi : i < 32) (hmask : mask.getLsbD i = false) (h : w &&& mask = 0) :
    setBit w i b &&& mask = 0 := by
  refine BitVec.eq_of_getLsbD_eq fun j hj => ?_
  have hbit := congrArg (BitVec.getLsbD · j) h
  simp only [BitVec.getLsbD_and, getLsbD_setBit _ _ _ _ hi] at hbit ⊢
  by_cases hij : j = i
  · simp [hij, hmask]
  · simpa [hij] using hbit

theorem and_and_not_self (v mask : Word) : v &&& mask &&& ~~~mask = 0 := by
  rw [BitVec.and_assoc, BitVec.and_not_self]
  exact BitVec.and_zero

/-- A value all of whose bits lie under a mask has none outside it. -/
theorem and_not_eq_zero (h : ∀ i, v.getLsbD i = true → mask.getLsbD i = true) : v &&& ~~~mask = 0 := by
  refine BitVec.eq_of_getLsbD_eq fun i hi => ?_
  have hzero : (0 : Word).getLsbD i = false := BitVec.getLsbD_zero
  rw [BitVec.getLsbD_and, BitVec.getLsbD_not, hzero, decide_eq_true hi, Bool.true_and]
  cases hv : v.getLsbD i with
  | false => rfl
  | true => rw [h i hv]; rfl

/-- A stored register reads back what is stored of the value, and no other register changes. -/
theorem mmr_setMmr : (s.setMmr r v).mmr q = if q = r then mmrStored r v s.free else s.mmr q := by
  cases r <;> cases q <;> rfl

/-- Of a stored value the bits the register has stay. -/
theorem getLsbD_mmrStored (h : registerKeeps r n = true) : (mmrStored r v i).getLsbD n = v.getLsbD n := by
  cases r with
  | traevt =>
    obtain ⟨hlow, hhigh⟩ : 2 ≤ n ∧ n ≤ 9 := of_decide_eq_true h
    have hmask : (0x3FC : Word).getLsbD n = true := by interval_cases n <;> rfl
    simp only [mmrStored, BitVec.getLsbD_and, hmask, Bool.and_true]
  | expevt | intevt =>
    have hlow : n < 12 := of_decide_eq_true h
    have hmask : (0xFFF : Word).getLsbD n = true := by interval_cases n <;> rfl
    simp only [mmrStored, BitVec.getLsbD_and, hmask, Bool.and_true]
  | mmucr =>
    have hn : n = 0 ∨ n = 8 := of_decide_eq_true h
    simp only [mmrStored]
    split
    · rw [getLsbD_setBit _ _ _ _ (by omega), if_neg (by omega)]
    · rfl
  | pteh | ptel | ttb | tea => rfl

/-- A value without reserved bits is stored without them. -/
theorem mmrStored_mmucr_reserved (h : v &&& ~~~mmucrMask = 0) : mmrStored .mmucr v n &&& ~~~mmucrMask = 0 := by
  simp only [mmrStored]
  split
  · exact setBit_and_eq_zero (by omega) rfl h
  · exact h

end

end Sys2Proof.Machine
end

section
/-! PROOF. The invariant of the state, over a step and after reset; the values reset leaves. -/

namespace Sys2Proof.Machine

open Sys2Proof.Safety

section
variable {s t : State}

theorem translating_of_mmucr (h : s.mmucr = 0) : s.translating = false := by
  rw [State.translating, h]
  rfl

theorem resetSr_reserved : (0x700000F0 : Word) &&& ~~~srMask = 0 := by decide

theorem resetCode_reserved : (0x020 : Word) &&& ~~~0xFFF = 0 := by decide

theorem stateInvariant_initial (cfg : Config) : StateInvariant (State.initial cfg) where
  memory := wf_initial cfg
  sr := resetSr_reserved
  traevt := BitVec.zero_and
  expevt := BitVec.zero_and
  intevt := BitVec.zero_and
  mmucr := BitVec.zero_and
  noMmu _ := translating_of_mmucr rfl

theorem stateInvariant_afterReset (c : ResetCause) (h : StateInvariant s) : StateInvariant (s.afterReset c) where
  memory := h.memory
  sr := resetSr_reserved
  traevt := BitVec.zero_and
  expevt := by
    cases c with
    | powerOn => exact BitVec.zero_and
    | manual => exact resetCode_reserved
  intevt := BitVec.zero_and
  mmucr := BitVec.zero_and
  noMmu _ := translating_of_mmucr rfl

/-- The bits trap entry sets exist (60_exceptions.md R610). -/
theorem trapSr_reserved {sr : Word} (h : sr &&& ~~~srMask = 0) : (sr ||| 0x70000000) &&& ~~~srMask = 0 := by
  rw [BitVec.and_or_distrib_right, h]
  decide

theorem Exc.code_reserved (e : Exc) : e.code &&& ~~~0xFFF = 0 := by
  cases e <;> simp only [Exc.code] <;> decide

/-- TRAPA leaves its immediate in bits 9:2, and no other exception writes TRAEVT (44_system.md R472). -/
theorem Exc.traevtAfter_reserved (e : Exc) {old : Word} (h : old &&& ~~~0x3FC = 0) :
    e.traevtAfter old &&& ~~~0x3FC = 0 := by
  cases e with
  | trap imm =>
    refine and_not_eq_zero fun i hi => ?_
    simp only [Exc.traevtAfter, BitVec.getLsbD_shiftLeft, BitVec.getLsbD_setWidth, Bool.and_eq_true,
      Bool.not_eq_true', decide_eq_true_eq, decide_eq_false_iff_not] at hi
    obtain ⟨⟨-, hlow⟩, -, hbit⟩ := hi
    have hhigh : i < 10 := by
      have := BitVec.lt_of_getLsbD hbit
      omega
    have hlow : 2 ≤ i := by omega
    interval_cases i <;> rfl
  | _ => exact h

theorem interruptCode_reserved (code : BitVec 12) : code.setWidth 32 &&& ~~~(0xFFF : Word) = 0 :=
  and_not_eq_zero fun i hi => by
    simp only [BitVec.getLsbD_setWidth, Bool.and_eq_true] at hi
    have hlow := BitVec.lt_of_getLsbD hi.2
    interval_cases i <;> rfl

theorem stateInvariant_enterException (e : Exc) (h : StateInvariant s) : StateInvariant (enterException e s) :=
  ⟨h.memory, trapSr_reserved h.sr, e.traevtAfter_reserved h.traevt, e.code_reserved, h.intevt, h.mmucr, h.noMmu⟩

theorem stateInvariant_enterInterrupt (code : BitVec 12) (h : StateInvariant s) :
    StateInvariant (enterInterrupt code s) where
  memory := by rw [enterInterrupt_mem]; exact h.memory
  sr := by rw [enterInterrupt_sr]; exact trapSr_reserved h.sr
  traevt := by rw [enterInterrupt_traevt]; exact h.traevt
  expevt := by rw [enterInterrupt_expevt]; exact h.expevt
  intevt := by rw [enterInterrupt_intevt]; exact interruptCode_reserved code
  mmucr := by rw [enterInterrupt_mmucr]; exact h.mmucr
  noMmu := by simpa only [State.translating, enterInterrupt_mmucr, enterInterrupt_cfg] using h.noMmu

theorem stateInvariant_consumed (h : StateInvariant s) : StateInvariant s.consumed :=
  ⟨h.memory, h.sr, h.traevt, h.expevt, h.intevt, h.mmucr, h.noMmu⟩

theorem OnlyRecords.stateInvariant (h : OnlyRecords s t) (hs : StateInvariant s) : StateInvariant t := by
  obtain ⟨n, l, rfl, -⟩ := h
  exact ⟨hs.memory, hs.sr, hs.traevt, hs.expevt, hs.intevt, hs.mmucr, hs.noMmu⟩

/-- A register stored to keeps only its fields; a store that turns translation on needs an MMU (20_memory.md R106). -/
theorem stateInvariant_setMmr (r : Mmr) {v : Word} (h : StateInvariant s)
    (hv : r = .mmucr → v &&& ~~~mmucrMask = 0 ∧ (v.getLsbD 0 = true → s.cfg.hasMmu = true)) :
    StateInvariant (s.setMmr r v) := by
  obtain ⟨hmem, hsr, htraevt, hexpevt, hintevt, hmmucr, hmmu⟩ := h
  cases r with
  | traevt => exact ⟨hmem, hsr, and_and_not_self v 0x3FC, hexpevt, hintevt, hmmucr, hmmu⟩
  | expevt => exact ⟨hmem, hsr, htraevt, and_and_not_self v 0xFFF, hintevt, hmmucr, hmmu⟩
  | intevt => exact ⟨hmem, hsr, htraevt, hexpevt, and_and_not_self v 0xFFF, hmmucr, hmmu⟩
  | mmucr =>
    obtain ⟨hreserved, hat⟩ := hv rfl
    refine ⟨hmem, hsr, htraevt, hexpevt, hintevt, mmrStored_mmucr_reserved hreserved, fun hno => ?_⟩
    have hoff : v.getLsbD 0 = false := by
      rw [← Bool.not_eq_true]
      exact fun hon => Bool.false_ne_true (hno.symm.trans (hat hon))
    exact (getLsbD_mmrStored (r := .mmucr) (n := 0) rfl).trans hoff
  | pteh | ptel | ttb | tea => exact ⟨hmem, hsr, htraevt, hexpevt, hintevt, hmmucr, hmmu⟩

/-- Every update keeps the invariant: those of SR write bits that exist, a store keeps memory canonical, a register
keeps its fields, and no other update touches what the invariant speaks of. -/
theorem Update.stateInvariant (h : Update s t) (hs : StateInvariant s) : StateInvariant t := by
  have ⟨hmem, hsr, htraevt, hexpevt, hintevt, hmmucr, hmmu⟩ := hs
  cases h with
  | records h => exact h.stateInvariant hs
  | setT => exact ⟨hmem, setBit_and_eq_zero (by omega) rfl hsr, htraevt, hexpevt, hintevt, hmmucr, hmmu⟩
  | setS => exact ⟨hmem, setBit_and_eq_zero (by omega) rfl hsr, htraevt, hexpevt, hintevt, hmmucr, hmmu⟩
  | @setQMT q m _ =>
    have hq := setBit_and_eq_zero (i := 8) (b := q) (by omega) rfl hsr
    have hqm := setBit_and_eq_zero (i := 9) (b := m) (by omega) rfl hq
    exact ⟨hmem, setBit_and_eq_zero (by omega) rfl hqm, htraevt, hexpevt, hintevt, hmmucr, hmmu⟩
  | setSr | returnFromException =>
    exact ⟨hmem, and_and_not_self _ srMask, htraevt, hexpevt, hintevt, hmmucr, hmmu⟩
  | memoryWrite => exact ⟨wf_memoryWrite _ _ _ hmem, hsr, htraevt, hexpevt, hintevt, hmmucr, hmmu⟩
  | setMmr _ hv => exact stateInvariant_setMmr _ hs hv
  | _ => exact ⟨hmem, hsr, htraevt, hexpevt, hintevt, hmmucr, hmmu⟩

theorem stateInvariant_of_updates (h : Updates s t) (hs : StateInvariant s) : StateInvariant t := by
  induction h with
  | refl => exact hs
  | tail _ hlast ih => exact hlast.stateInvariant ih

end

/-- Settles O6: each of the four things a step can be keeps the invariant of the state that has consumed the boundary's
request; for an instruction, because every update does. -/
theorem stepKeepsWellFormedState : Obligations.StepKeepsWellFormedState := by
  intro s t hs h
  have hc := stateInvariant_consumed hs
  rcases step_cases h with ⟨c, -, rfl⟩ | ⟨code, -, rfl⟩ | hu | ⟨e, u, hu, -, rfl⟩
  · exact stateInvariant_afterReset c hc
  · exact stateInvariant_enterInterrupt code hc
  · exact stateInvariant_of_updates hu hc
  · exact stateInvariant_enterException e (hu.stateInvariant hc)

/-- Settles O7: memory as configured is canonical, and the other values are constants that meet it. -/
theorem resetStateWellFormed : Obligations.ResetStateWellFormed :=
  ⟨stateInvariant_initial Config.standard, stateInvariant_initial⟩

theorem step_of_reset {s : State} {c : ResetCause} (h : s.event = .reset c) :
    step s = .next (s.consumed.afterReset c) := by
  rw [step, h]
  rfl

/-- The modes after reset: supervisor on Bank B, exceptions blocked, every maskable request refused, the FPU on
(10_state.md R65). -/
theorem modes_of_resetSr {t : State} (h : t.sr = 0x700000F0) :
    t.md = true ∧ t.rb = true ∧ t.bl = true ∧ t.im = 15 ∧ t.fd = false := by
  simp only [State.md, State.rb, State.bl, State.im, State.fd, h]
  decide

/-- Settles O9: power-on reset is `State.initial`, and a reset event leaves its registers, EXPEVT by cause. -/
theorem resetValues : Obligations.ResetValues := by
  refine ⟨rfl, fun cfg => memGet_memOfCells cfg.contents, fun s t c hreset => ?_⟩
  have hmem : s.event = .reset c → step s = .next t → t.mem = s.mem := fun hev hstep => by
    rw [step_of_reset hev] at hstep
    cases hstep
    rfl
  rcases hreset with ⟨rfl, rfl⟩ | ⟨hev, hstep⟩
  · obtain ⟨hmd, hrb, hbl, him, hfd⟩ := modes_of_resetSr (t := State.initial s.cfg) rfl
    exact ⟨rfl, hmd, hrb, hbl, him, hfd, rfl, rfl, rfl, rfl, rfl, rfl, hmem⟩
  · rw [step_of_reset hev] at hstep
    cases hstep
    obtain ⟨hmd, hrb, hbl, him, hfd⟩ := modes_of_resetSr (s.consumed.afterReset_sr c)
    exact ⟨rfl, hmd, hrb, hbl, him, hfd, rfl, rfl, rfl, rfl, rfl, by cases c <;> rfl, hmem⟩

end Sys2Proof.Machine
end

section
/-! PROOF. Accesses to the memory-mapped registers at the addresses that reach them without translation
(10_state.md R45; 20_memory.md R72 to R74, R85; 60_exceptions.md R625). -/

namespace Sys2Proof.Machine

open Sys2Proof.Safety

/-- An address that leads to a register without translation: its low 29 bits are those of the register (20_memory.md
R74). -/
structure RegisterAlias (s : State) (r : Mmr) (va : Word) : Prop where
  mode29 : s.cfg.addr32 = false
  low : va.toNat % 2 ^ 29 = 0x1F000000 + registerOffset r
  untranslated : ¬ Translated s va

section
variable {s u : State} {r : Mmr} {va v : Word} {k : AccessKind} {w : Width} {md : Bool}

theorem toNat_untranslated (va : Word) : (untranslated va).toNat = va.toNat % 2 ^ 29 := by
  rw [untranslated, BitVec.toNat_and]
  exact Nat.and_two_pow_sub_one_eq_mod va.toNat 29

theorem mmrAt_registerOffset (r : Mmr) : mmrAt (0x1F000000 + registerOffset r) = some r := by cases r <;> rfl

theorem RegisterAlias.mmrAt_eq (h : RegisterAlias s r va) : mmrAt (Machine.untranslated va).toNat = some r := by
  rw [toNat_untranslated, h.low, mmrAt_registerOffset]

theorem RegisterAlias.aligned_long (h : RegisterAlias s r va) : aligned .long va = true := by
  have hoff : registerOffset r % 4 = 0 := by cases r <;> rfl
  have hlow := h.low
  have hmod : va.toNat % 4 = 0 := by omega
  simp only [aligned, Width.bytes, hmod, beq_self_eq_true]

theorem translation_off (h : ¬ Translated s va) : (s.translating && translatedRange va) = false := by
  rw [Bool.and_eq_false_iff]
  by_cases hat : s.translating = true
  · refine .inr (Bool.eq_false_iff.mpr fun hrange => h ⟨hat, ?_⟩)
    simp only [translatedRange, Bool.or_eq_true, decide_eq_true_eq, beq_iff_eq] at hrange
    omega
  · exact .inl (Bool.eq_false_iff.mpr hat)

/-- Where the mode may use the address, the access goes to its low 29 bits. -/
theorem RegisterAlias.translate_eq (h : RegisterAlias s r va) (hmode : (!md && va.msb) = false) :
    translate k md .long va s = .ok (Machine.untranslated va) s := by
  simp [translate, h.mode29, h.aligned_long, hmode, translation_off h.untranslated]

/-- Above 8000_0000 user mode meets the address error (20_memory.md R72). -/
theorem RegisterAlias.translate_user_high (h : RegisterAlias s r va) (hmsb : va.msb = true) :
    translate k false .long va s = .exc (k.addressError va) s := by
  simp [translate, h.mode29, h.aligned_long, hmsb]

/-- In supervisor mode the access reaches the register. -/
theorem RegisterAlias.resolve_supervisor (h : RegisterAlias s r va) :
    resolve k true .long va s = .ok (.register r) s := by
  have hloc : locate k true .long va s = .ok (Machine.untranslated va) s :=
    locate_eq_ok.mpr ⟨h.translate_eq rfl, .inl rfl⟩
  simp [resolve, hloc, Access.bind, placeOf, h.mmrAt_eq]

/-- In user mode it is the address error, above 8000_0000 and below (60_exceptions.md R625; log 10). -/
theorem RegisterAlias.resolve_user (h : RegisterAlias s r va) :
    resolve k false .long va s = .exc (k.addressError va) s := by
  refine Access.bind_eq_exc.mpr (.inl (locate_eq_exc.mpr ?_))
  rcases Bool.eq_false_or_eq_true va.msb with hmsb | hmsb
  · exact .inl (h.translate_user_high hmsb)
  · refine .inr ⟨rfl, rfl, Machine.untranslated va, h.translate_eq (by simp [hmsb]), ?_⟩
    simp [h.mmrAt_eq]

/-- A store that sets a reserved bit of MMUCR is refused (20_memory.md R100). -/
theorem memWrite_mmucr_reserved (h : resolve .write s.md w va s = .ok (.register .mmucr) u)
    (hv : v &&& ~~~mmucrMask ≠ 0) : memWrite w va v s = .refused .mmucrReservedBits := by
  rw [memWrite, h]
  exact if_pos ⟨rfl, hv⟩

end

/-- Settles O20: without translation the address names the register, where a load and a store are those of the register;
in user mode the address error comes first, and no translation leads to a register. -/
theorem memoryMappedRegisters : Obligations.MemoryMappedRegisters := by
  intro s r v va h32
  refine ⟨fun hlow hnot => ?_, fun hmd k w u => hmd ▸ resolve_user_ne_register⟩
  have halias : RegisterAlias s r va := ⟨h32, hlow, hnot⟩
  constructor
  · intro hmd
    have hread : resolve .read s.md .long va s = .ok (.register r) s := hmd ▸ halias.resolve_supervisor
    have hwrite : resolve .write s.md .long va s = .ok (.register r) s := hmd ▸ halias.resolve_supervisor
    refine ⟨memRead_register hread, fun haccepts => ⟨s.setMmr r v, memWrite_register hwrite haccepts, ?_, ?_, rfl⟩, ?_⟩
    · intro n hn
      rw [mmr_setMmr, if_pos rfl, getLsbD_mmrStored hn]
    · intro q hq
      rw [mmr_setMmr, if_neg hq]
    · rintro rfl hreserved
      exact memWrite_mmucr_reserved hwrite hreserved
  · intro hmd
    exact ⟨memRead_eq_exc.mpr (hmd ▸ halias.resolve_user), memWrite_eq_exc.mpr (hmd ▸ halias.resolve_user)⟩

end Sys2Proof.Machine
end

section
/-! PROOF. What each update leaves unchanged, in the terms of `Frame`, and how frames compose. -/

namespace Sys2Proof.Machine

open Sys2Proof.Safety

/-- What an access leaves of the core: every register but the memory-mapped ones, where execution goes on, and what the
environment presents. -/
structure KeepsCore (s t : State) : Prop where
  bankA : t.bankA = s.bankA
  bankB : t.bankB = s.bankB
  high : t.high = s.high
  pc : t.pc = s.pc
  pending : t.pending = s.pending
  sr : t.sr = s.sr
  fpscr : t.fpscr = s.fpscr
  fa : t.fa = s.fa
  fb : t.fb = s.fb
  asleep : t.asleep = s.asleep
  events : t.events = s.events
  cfg : t.cfg = s.cfg

/-- One special register written. -/
def State.setSpecial (s : State) (x : Special) (v : Word) : State :=
  { s with
    gbr := if x = .gbr then v else s.gbr
    vbr := if x = .vbr then v else s.vbr
    ssr := if x = .ssr then v else s.ssr
    spc := if x = .spc then v else s.spc
    sgr := if x = .sgr then v else s.sgr
    dbr := if x = .dbr then v else s.dbr
    mach := if x = .mach then v else s.mach
    macl := if x = .macl then v else s.macl
    pr := if x = .pr then v else s.pr
    fpul := if x = .fpul then v else s.fpul
    fpscr := if x = .fpscr then v else s.fpscr
    pteh := if x = .pteh then v else s.pteh
    ptel := if x = .ptel then v else s.ptel
    ttb := if x = .ttb then v else s.ttb
    tea := if x = .tea then v else s.tea
    mmucr := if x = .mmucr then v else s.mmucr
    traevt := if x = .traevt then v else s.traevt
    expevt := if x = .expevt then v else s.expevt
    intevt := if x = .intevt then v else s.intevt }

section
variable {s t u : State} {r : Reg} {v n : Word} {regs regs' : List Reg} {bits bits' : List Nat}
  {xs xs' : List Special} {cells cells' : List (Bool × FReg)} {bytes bytes' : List Nat}

/-! ### The core -/

theorem KeepsCore.refl : KeepsCore s s := ⟨rfl, rfl, rfl, rfl, rfl, rfl, rfl, rfl, rfl, rfl, rfl, rfl⟩

theorem KeepsCore.trans (h : KeepsCore s t) (h' : KeepsCore t u) : KeepsCore s u where
  bankA := h'.bankA.trans h.bankA
  bankB := h'.bankB.trans h.bankB
  high := h'.high.trans h.high
  pc := h'.pc.trans h.pc
  pending := h'.pending.trans h.pending
  sr := h'.sr.trans h.sr
  fpscr := h'.fpscr.trans h.fpscr
  fa := h'.fa.trans h.fa
  fb := h'.fb.trans h.fb
  asleep := h'.asleep.trans h.asleep
  events := h'.events.trans h.events
  cfg := h'.cfg.trans h.cfg

theorem KeepsCore.bankBActive (h : KeepsCore s t) : t.bankBActive = s.bankBActive := by
  simp only [State.bankBActive, State.md, State.rb, h.sr]

theorem KeepsCore.reg (h : KeepsCore s t) (r : Reg) : t.reg r = s.reg r :=
  State.reg_congr h.bankA h.bankB h.high h.bankBActive r

theorem KeepsCore.otherBank (h : KeepsCore s t) (b : BReg) : t.otherBank b = s.otherBank b :=
  State.otherBank_congr h.bankA h.bankB h.bankBActive b

theorem KeepsCore.md (h : KeepsCore s t) : t.md = s.md := by rw [State.md, h.sr, ← State.md]

theorem KeepsCore.frBit (h : KeepsCore s t) : t.frBit = s.frBit := by rw [State.frBit, h.fpscr, ← State.frBit]

theorem KeepsCore.prec (h : KeepsCore s t) : t.prec = s.prec := by rw [State.prec, h.fpscr, ← State.prec]

theorem KeepsCore.pairInB (h : KeepsCore s t) (r : FReg) : t.pairInB r = s.pairInB r := by
  rw [State.pairInB, h.frBit, ← State.pairInB]

/-! ### Frames -/

theorem frame_refl : Frame s s [] [] [] [] [] where
  reg _ _ := rfl
  bank _ := rfl
  sr _ _ := rfl
  special _ _ := rfl
  fp _ _ _ := rfl
  mem _ _ := rfl
  stale _ := rfl
  asleep := rfl
  events := rfl
  devLog := rfl
  cfg := rfl

theorem not_mem_append {α : Type} {a : α} {l l' : List α} (h : a ∉ l ++ l') : a ∉ l ∧ a ∉ l' := by
  simpa only [List.mem_append, not_or] using h

/-- Of two changes made one after the other, nothing differs but what either changes. -/
theorem frame_trans (h : Frame s t regs bits xs cells bytes) (h' : Frame t u regs' bits' xs' cells' bytes') :
    Frame s u (regs ++ regs') (bits ++ bits') (xs ++ xs') (cells ++ cells') (bytes ++ bytes') where
  reg q hq := (h'.reg q (not_mem_append hq).2).trans (h.reg q (not_mem_append hq).1)
  bank b := (h'.bank b).trans (h.bank b)
  sr i hi := (h'.sr i (not_mem_append hi).2).trans (h.sr i (not_mem_append hi).1)
  special x hx := (h'.special x (not_mem_append hx).2).trans (h.special x (not_mem_append hx).1)
  fp b c hc := (h'.fp b c (not_mem_append hc).2).trans (h.fp b c (not_mem_append hc).1)
  mem a ha := (h'.mem a (not_mem_append ha).2).trans (h.mem a (not_mem_append ha).1)
  stale hbytes := (h'.stale (List.append_eq_nil_iff.mp hbytes).2).trans (h.stale (List.append_eq_nil_iff.mp hbytes).1)
  asleep := h'.asleep.trans h.asleep
  events := h'.events.trans h.events
  devLog := h'.devLog.trans h.devLog
  cfg := h'.cfg.trans h.cfg

/-- A change that keeps the core shows in the memory-mapped registers, memory and the record of device accesses only. -/
theorem KeepsCore.frame (h : KeepsCore s t) (hspecial : ∀ x, x ∉ xs → special t x = special s x)
    (hmem : ∀ a, a ∉ bytes → memGet t.mem a = memGet s.mem a) (hstale : bytes = [] → t.stale = s.stale) :
    Frame s { t with devLog := s.devLog } [] [] xs [] bytes where
  reg q _ := h.reg q
  bank b := h.otherBank b
  sr i _ := congrArg (BitVec.getLsbD · i) h.sr
  special := hspecial
  fp inB c _ := by simp only [fpCell, h.fa, h.fb]
  mem := hmem
  stale := hstale
  asleep := h.asleep
  events := h.events
  devLog := rfl
  cfg := h.cfg

theorem frame_setReg : Frame s (s.setReg r v) [r] [] [] [] [] :=
  { frame_refl with
    reg := fun q hq => s.reg_setReg_ne v (List.ne_of_not_mem_cons hq)
    bank := s.otherBank_setReg r v
    special := fun x _ => by cases x <;> rfl }

theorem frame_advance : Frame s (s.advance n) [] [] [] [] [] :=
  { frame_refl with
    reg := fun q _ => s.reg_advance n q
    bank := fun b => State.otherBank_congr (s := s) rfl rfl rfl b
    special := fun x _ => by cases x <;> rfl }

/-- Where execution goes on is not spoken of. -/
theorem frame_then_advance (h : Frame s t regs bits xs cells bytes) :
    Frame s (t.advance n) regs bits xs cells bytes := by
  simpa only [List.append_nil] using frame_trans h frame_advance

theorem frame_setT {b : Bool} : Frame s (s.setT b) [] [0] [] [] [] :=
  { frame_refl with
    reg := fun q _ => s.reg_setT b q
    bank := State.otherBank_congr (s.setT_bankA b) (s.setT_bankB b) (s.bankBActive_setT b)
    sr := fun i hi => by rw [State.setT_sr, getLsbD_setBit _ _ _ _ (by omega), if_neg (List.ne_of_not_mem_cons hi)]
    special := fun x _ => by cases x <;> rfl }

theorem special_setSpecial {x y : Special} :
    special (s.setSpecial x v) y = if y = x then v else special s y := by
  cases y <;> simp only [special, State.setSpecial, eq_comm]

theorem frame_setSpecial {x : Special} : Frame s (s.setSpecial x v) [] [] [x] [] [] :=
  { frame_refl with
    reg := fun q _ => State.reg_congr (s := s) rfl rfl rfl rfl q
    bank := fun b => State.otherBank_congr (s := s) rfl rfl rfl b
    special := fun y hy => by rw [special_setSpecial, if_neg (List.ne_of_not_mem_cons hy)] }

/-- A cell keeps its value when another cell of the bank is written. -/
theorem getElem_setCell {bank : Vector Word 16} {i : Nat} {hi : i < 16} {q : FReg} (h : q.val ≠ i) :
    (bank.set i v hi)[q] = bank[q] := Vector.getElem_set_ne _ _ h.symm

theorem fpCell_setFr_ne {r c : FReg} {inB : Bool} (h : inB = s.frBit → c.val ≠ r.val) :
    fpCell (s.setFr r v) inB c = fpCell s inB c := by
  cases inB with
  | false =>
    simp only [fpCell, State.setFr, Bool.false_eq_true, if_false]
    split
    · rfl
    · next hb => exact getElem_setCell (h (Bool.eq_false_iff.mpr hb).symm)
  | true =>
    simp only [fpCell, State.setFr, if_true]
    split
    · next hb => exact getElem_setCell (h hb.symm)
    · rfl

theorem fpCell_setDr_ne {r c : FReg} {inB : Bool} {d : DWord}
    (h : inB = s.pairInB r → c.val ≠ pairHi r ∧ c.val ≠ pairLo r) : fpCell (s.setDr r d) inB c = fpCell s inB c := by
  have hset : ∀ bank : Vector Word 16, inB = s.pairInB r →
      ((bank.set (pairHi r) (hiWord d) (pairHi_lt r)).set (pairLo r) (loWord d) (pairLo_lt r))[c] = bank[c] :=
    fun _ hb => (getElem_setCell (h hb).2).trans (getElem_setCell (h hb).1)
  cases inB with
  | false =>
    simp only [fpCell, State.setDr, Bool.false_eq_true, if_false]
    split
    · rfl
    · next hb => exact hset s.fa (Bool.eq_false_iff.mpr hb).symm
  | true =>
    simp only [fpCell, State.setDr, if_true]
    split
    · next hb => exact hset s.fb hb.symm
    · rfl

theorem frame_setFr {r : FReg} : Frame s (s.setFr r v) [] [] [] [(s.frBit, r)] [] :=
  { frame_refl with
    reg := fun q _ => State.reg_congr (s := s) rfl rfl rfl rfl q
    bank := fun b => State.otherBank_congr (s := s) rfl rfl rfl b
    special := fun x _ => by cases x <;> rfl
    fp := fun _ _ hc => fpCell_setFr_ne fun hb hcr => hc (List.mem_singleton.mpr (Prod.ext hb (Fin.ext hcr))) }

theorem frame_setDr {r : FReg} {d : DWord} : Frame s (s.setDr r d) [] [] [] (pairCells s r) [] :=
  { frame_refl with
    reg := fun q _ => State.reg_congr (s := s) rfl rfl rfl rfl q
    bank := fun b => State.otherBank_congr (s := s) rfl rfl rfl b
    special := fun x _ => by cases x <;> rfl
    fp := fun _ _ hc => fpCell_setDr_ne fun hb =>
      ⟨fun hcr => hc (List.mem_cons.mpr (.inl (Prod.ext hb (Fin.ext hcr)))),
        fun hcr => hc (List.mem_cons.mpr (.inr (List.mem_singleton.mpr (Prod.ext hb (Fin.ext hcr)))))⟩ }

theorem KeepsCore.pairCells (h : KeepsCore s t) (r : FReg) : Safety.pairCells t r = Safety.pairCells s r := by
  rw [Safety.pairCells, h.pairInB, ← Safety.pairCells]

/-! ### Completion -/

theorem completed_advance {i : Instr} (hpc : t.pc = s.pc) (hpending : t.pending = s.pending) :
    Completed i s (t.advance i.size) := by
  refine ⟨?_, rfl⟩
  cases hp : s.pending <;> simp only [State.advance, hpending, hp, hpc]

end

end Sys2Proof.Machine
end

section
/-! PROOF. What a load finds and a store leaves, whatever place its access reaches (20_memory.md R81, R85, R90). -/

namespace Sys2Proof.Machine

open Sys2Proof.Safety

/-- Nothing differs but the draw counter. -/
def OnlyDrawn (s t : State) : Prop := ∃ n, t = { s with free := n }

section
variable {s t u x m : State} {k : AccessKind} {md : Bool} {w : Width} {va v a b : Word} {p q : Place} {pa : Nat}

theorem OnlyDrawn.refl : OnlyDrawn s s := ⟨s.free, rfl⟩

theorem OnlyDrawn.trans (h : OnlyDrawn s u) (h' : OnlyDrawn u t) : OnlyDrawn s t := by
  obtain ⟨_, rfl⟩ := h
  obtain ⟨n, rfl⟩ := h'
  exact ⟨n, rfl⟩

theorem OnlyDrawn.keepsCore (h : OnlyDrawn s t) : KeepsCore s t := by
  obtain ⟨n, rfl⟩ := h
  exact ⟨rfl, rfl, rfl, rfl, rfl, rfl, rfl, rfl, rfl, rfl, rfl, rfl⟩

theorem resolve_onlyDrawn (h : resolve k md w va s = .ok p u) : OnlyDrawn s u := by
  rcases resolve_state h with rfl | rfl
  · exact .refl
  · exact ⟨s.free + 1, rfl⟩

/-! ### Values in memory -/

theorem trunc_trunc : w.trunc (w.trunc v) = w.trunc v := by
  cases w <;> simp [Width.trunc, BitVec.extractLsb'_setWidth_of_le]

theorem append_lowBytes (v : Word) : v.extractLsb' 8 8 ++ v.extractLsb' 0 8 = v.extractLsb' 0 16 :=
  BitVec.extractLsb'_append_extractLsb'_eq_extractLsb' rfl

theorem append_bytes (v : Word) :
    v.extractLsb' 24 8 ++ v.extractLsb' 16 8 ++ v.extractLsb' 8 8 ++ v.extractLsb' 0 8 = v := by
  have hhigh : v.extractLsb' 24 8 ++ v.extractLsb' 16 8 = v.extractLsb' 16 16 :=
    BitVec.extractLsb'_append_extractLsb'_eq_extractLsb' rfl
  have hupper : v.extractLsb' 16 16 ++ v.extractLsb' 8 8 = v.extractLsb' 8 24 :=
    BitVec.extractLsb'_append_extractLsb'_eq_extractLsb' rfl
  rw [hhigh, hupper]
  exact BitVec.extractLsb'_append_extractLsb'

/-- The bytes of a value, put together again, are its low bits (20_memory.md R81). -/
theorem loadBytes_memSetList (e : Endian) (mem : List Host.Cell) (pa : Nat) (w : Width) (v : Word) :
    loadBytes e (memSetList mem pa (bytesOf e w v)) pa w = w.trunc v := by
  have hsecond : pa ≠ pa + 1 + 1 := by omega
  have hthird : pa ≠ pa + 1 + 1 + 1 := by omega
  cases w <;> cases e <;>
    simp [loadBytes, bytesOf, memSetList, memGet_memSet, half2, word4, Width.trunc, hsecond, hthird, append_lowBytes,
      append_bytes]

theorem mem_accessBytes {c : Nat} : c ∈ accessBytes w pa ↔ pa ≤ c ∧ c < pa + w.bytes := by
  cases w <;> simp [accessBytes, Width.bytes] <;> omega

theorem memGet_memoryWrite_outside {c : Nat} (h : c ∉ accessBytes w pa) :
    memGet (s.memoryWrite pa w v).mem c = memGet s.mem c := by
  rw [mem_accessBytes, ← length_bytesOf s.cfg.endian w v] at h
  exact (memGet_memSetList ..).trans (dif_neg h)

/-! ### Reading and writing a place -/

theorem keepsCore_of_finds (h : Finds w p v s m) : KeepsCore s m := by
  obtain ⟨hstate, -⟩ := h
  exact hstate ▸ ⟨rfl, rfl, rfl, rfl, rfl, rfl, rfl, rfl, rfl, rfl, rfl, rfl⟩

/-- Any place answers a read. -/
theorem exists_readPlace (w : Width) (p : Place) (h : OnlyDrawn s u) :
    ∃ v m, readPlace w p u = .ok v m ∧ Finds w p v s m := by
  obtain ⟨n, rfl⟩ := h
  cases p with
  | memory pa => exact ⟨_, _, rfl, rfl, rfl, rfl⟩
  | device pa => exact ⟨_, _, rfl, rfl, trunc_trunc.symm, rfl⟩
  | register r => exact ⟨_, _, rfl, rfl, by cases r <;> rfl, rfl⟩

theorem keepsCore_of_writePlace (h : writePlace w v p s = .ok () t) : KeepsCore s t := by
  rcases writePlace_eq_ok h with ⟨_, _, rfl⟩ | ⟨_, _, rfl⟩ | ⟨_, _, rfl, _⟩
  all_goals exact ⟨rfl, rfl, rfl, rfl, rfl, rfl, rfl, rfl, rfl, rfl, rfl, rfl⟩

/-- A store to a memory-mapped register changes no other special register. -/
theorem special_setMmr {r : Mmr} {y : Special} (h : y ≠ mmrSpecial r) :
    special (s.setMmr r v) y = special s y := by
  have hne : ∀ q, y = mmrSpecial q → r ≠ q := by
    rintro q hy rfl
    exact h hy
  cases y with
  | pteh => exact if_neg (hne .pteh rfl)
  | ptel => exact if_neg (hne .ptel rfl)
  | ttb => exact if_neg (hne .ttb rfl)
  | tea => exact if_neg (hne .tea rfl)
  | mmucr => exact if_neg (hne .mmucr rfl)
  | traevt => exact if_neg (hne .traevt rfl)
  | expevt => exact if_neg (hne .expevt rfl)
  | intevt => exact if_neg (hne .intevt rfl)
  | _ => rfl

/-- A register that accepts the value is written. -/
theorem writePlace_register {r : Mmr} (h : mmrAccepts s.cfg r v) :
    writePlace w v (.register r) s = .ok () (s.setMmr r v) := by
  have hreserved : ¬ (r = .mmucr ∧ v &&& ~~~mmucrMask ≠ 0) := fun ⟨hr, hv⟩ => hv (h hr).1
  have hmmu : ¬ (r = .mmucr ∧ v.getLsbD 0 = true ∧ s.cfg.hasMmu = false) := fun ⟨hr, hat, hno⟩ =>
    Bool.false_ne_true (hno.symm.trans ((h hr).2 hat))
  rw [writePlace, if_neg hreserved, if_neg hmmu]

/-- Any place takes a value, of MMUCR one it accepts. -/
theorem exists_writePlace (w : Width) (h : OnlyDrawn s u) (hp : PlaceAccepts s.cfg p v) :
    ∃ m, writePlace w v p u = .ok () m ∧ Takes w p v s m ∧ KeepsCore s m := by
  have hwrite : ∃ m, writePlace w v p u = .ok () m := by
    cases p with
    | memory pa => exact ⟨_, rfl⟩
    | device pa => exact ⟨_, rfl⟩
    | register r => exact ⟨_, writePlace_register (h.keepsCore.cfg ▸ hp r rfl)⟩
  obtain ⟨m, hm⟩ := hwrite
  have hcore : KeepsCore s m := h.keepsCore.trans (keepsCore_of_writePlace hm)
  refine ⟨m, hm, ?_, hcore⟩
  obtain ⟨n, rfl⟩ := h
  rcases writePlace_eq_ok hm with ⟨pa, rfl, rfl⟩ | ⟨pa, rfl, rfl⟩ | ⟨r, rfl, rfl, -⟩
  · refine ⟨hcore.frame (fun x _ => by cases x <;> rfl) (fun a ha => memGet_memoryWrite_outside ha) ?_,
      loadBytes_memSetList .., rfl⟩
    cases w <;> exact fun hnil => nomatch hnil
  · exact ⟨hcore.frame (fun x _ => by cases x <;> rfl) (fun _ _ => rfl) fun _ => rfl, rfl⟩
  · refine ⟨hcore.frame (fun x hx => ?_) (fun _ _ => rfl) fun _ => rfl, fun n hn => ?_, rfl⟩
    · exact (special_setMmr (List.ne_of_not_mem_cons hx)).trans (by cases x <;> rfl)
    · rw [mmr_setMmr, if_pos rfl, getLsbD_mmrStored hn]

/-! ### Loads and stores -/

theorem memRead_finds (h : resolve .read s.md w va s = .ok p u) :
    ∃ v m, memRead w va s = .ok v m ∧ Finds w p v s m := by
  obtain ⟨v, m, hread, hfinds⟩ := exists_readPlace w p (resolve_onlyDrawn h)
  exact ⟨v, m, memRead_eq_ok.mpr ⟨p, u, h, hread⟩, hfinds⟩

theorem memWrite_takes (h : resolve .write s.md w va s = .ok p u) (hp : PlaceAccepts s.cfg p v) :
    ∃ m, memWrite w va v s = .ok () m ∧ Takes w p v s m ∧ KeepsCore s m := by
  obtain ⟨m, hwrite, htakes⟩ := exists_writePlace w (resolve_onlyDrawn h) hp
  exact ⟨m, memWrite_eq_ok.mpr ⟨p, u, h, hwrite⟩, htakes⟩

/-- A pair of words under the precision and byte order of the machine (45_fpu.md R522). -/
theorem pairOfWords_eq (hcore : KeepsCore s t) : pairOfWords t a b = pairInMemory s a b := by
  rw [pairOfWords, pairHighFirst, hcore.prec, hcore.cfg, pairInMemory]
  cases s.prec <;> cases s.cfg.endian <;> rfl

/-- The two words of a pair in memory are those stored for it. -/
theorem words_of_pairInMemory {d : DWord} (h : pairInMemory s a b = d) (hcore : KeepsCore s t)
    (hcore' : KeepsCore s u) : pairFirst t d = a ∧ pairSecond u d = b := by
  subst h
  simp only [pairFirst, pairSecond, pairHighFirst, hcore.prec, hcore.cfg, hcore'.prec, hcore'.cfg, pairInMemory]
  have hhi : ∀ y z : Word, hiWord (y ++ z) = y := fun y z => BitVec.extractLsb'_append_eq_left
  have hlo : ∀ y z : Word, loWord (y ++ z) = z := fun y z => BitVec.extractLsb'_append_eq_right
  cases s.prec with
  | false => exact ⟨hhi a b, hlo a b⟩
  | true =>
    cases s.cfg.endian with
    | little => exact ⟨hlo b a, hhi b a⟩
    | big => exact ⟨hhi a b, hlo a b⟩

/-- The two reads of a pair, each of a place of its own (45_fpu.md R522). -/
theorem pairRead_finds (h : resolve .read s.md .long va s = .ok p u)
    (h' : resolve .read s.md .long (va + 4) u = .ok q x) :
    ∃ a b m n, pairRead va s = .ok (pairInMemory s a b) n ∧ Finds .long p a s m ∧ Finds .long q b m n := by
  have hu := resolve_onlyDrawn h
  obtain ⟨a, m, hread, hfinds⟩ := exists_readPlace .long p (hu.trans (resolve_onlyDrawn h'))
  obtain ⟨b, n, hread', hfinds'⟩ := exists_readPlace .long q (OnlyDrawn.refl (s := m))
  refine ⟨a, b, m, n, ?_, hfinds, hfinds'⟩
  rw [← pairOfWords_eq ((keepsCore_of_finds hfinds).trans (keepsCore_of_finds hfinds'))]
  refine Access.bind_eq_ok.mpr ⟨p, u, h, Access.bind_eq_ok.mpr ⟨q, x, ?_, ?_⟩⟩
  · rw [hu.keepsCore.md, h']
  · exact Access.bind_eq_ok.mpr ⟨a, m, hread, Access.bind_eq_ok.mpr ⟨b, n, hread', rfl⟩⟩

/-- The two writes of a pair, each to a place of its own (45_fpu.md R522). -/
theorem pairWrite_takes {d : DWord} (h : resolve .write s.md .long va s = .ok p u)
    (h' : resolve .write s.md .long (va + 4) u = .ok q x) (hd : pairInMemory s a b = d)
    (hp : PlaceAccepts s.cfg p a) (hq : PlaceAccepts s.cfg q b) :
    ∃ m n, pairWrite va d s = .ok () n ∧ Takes .long p a s m ∧ Takes .long q b m n ∧ KeepsCore s n := by
  have hu := resolve_onlyDrawn h
  have hx := hu.trans (resolve_onlyDrawn h')
  obtain ⟨m, hwrite, htakes, hm⟩ := exists_writePlace .long hx hp
  obtain ⟨n, hwrite', htakes', hn⟩ := exists_writePlace .long (OnlyDrawn.refl (s := m)) (hm.cfg.symm ▸ hq)
  obtain ⟨hfirst, hsecond⟩ := words_of_pairInMemory hd hx.keepsCore hm
  refine ⟨m, n, ?_, htakes, htakes', hm.trans hn⟩
  refine Access.bind_eq_ok.mpr ⟨p, u, h, Access.bind_eq_ok.mpr ⟨q, x, ?_, ?_⟩⟩
  · rw [hu.keepsCore.md, h']
  · refine Access.bind_eq_ok.mpr ⟨(), m, ?_, ?_⟩
    · rw [hfirst, hwrite]
    · rw [hsecond, hwrite']

end

end Sys2Proof.Machine
end

section
/-! PROOF. The loads and stores once their access has answered: what each shape completes with, and which instruction
has which shape. -/

namespace Sys2Proof.Machine

open Sys2Proof.Safety

/-- The address register of a floating-point access steps, where the form has one (45_fpu.md R523). -/
def State.stepPointer (s : State) (step : Option (Reg × Word)) : State :=
  match step with
  | none => s
  | some r => s.setReg r.1 r.2

section
variable {s : State} {step : Option (Reg × Word)}

theorem State.stepPointer_pc : (s.stepPointer step).pc = s.pc := by cases step <;> rfl

theorem State.stepPointer_pending : (s.stepPointer step).pending = s.pending := by cases step <;> rfl

theorem State.fr_stepPointer (r : FReg) : (s.stepPointer step).fr r = s.fr r := by cases step <;> rfl

theorem State.dr_stepPointer (r : FReg) : (s.stepPointer step).dr r = s.dr r := by cases step <;> rfl

theorem State.reg_stepPointer {r : Reg × Word} (h : step = some r) : (s.stepPointer step).reg r.1 = r.2 := by
  subst h
  exact s.reg_setReg_same r.1 r.2

theorem frame_stepPointer : Frame s (s.stepPointer step) (step.toList.map Prod.fst) [] [] [] [] := by
  cases step with
  | none => exact frame_refl
  | some r => exact frame_setReg

end

section
variable {s m : State} {w : Width} {ea v : Word} {rm rn ro : Reg} {k : Res} {i : Instr}

/-! ### Shapes -/

/-- Sign extension keeps the two's-complement value of the low bits (40_data_transfer.md R202). -/
theorem signed_eq_loadedValue : w.signed v = loadedValue w true v := by
  cases w with
  | byte => exact congrArg (BitVec.ofInt 32 ·.toInt) (BitVec.setWidth_eq_extractLsb' (x := v) (w := 8) (by omega)).symm
  | half => exact congrArg (BitVec.ofInt 32 ·.toInt) (BitVec.setWidth_eq_extractLsb' (x := v) (w := 16) (by omega)).symm
  | long => rfl

theorem load16_ok (h : memRead w ea s = .ok v m) :
    load16 w ea rn s = .next ((m.setReg rn (loadedValue w true v)).advance 2) := by
  rw [load16, h, ← signed_eq_loadedValue]
  rfl

theorem load32_ok (h : memRead w ea s = .ok v m) :
    load32 w ea rn s = .next ((m.setReg rn (loadedValue w true v)).advance 4) := by
  rw [load32, h, ← signed_eq_loadedValue]
  rfl

theorem loadZero32_ok (h : memRead w ea s = .ok v m) :
    loadZero32 w ea rn s = .next ((m.setReg rn (loadedValue w false v)).advance 4) := by
  rw [loadZero32, h]
  rfl

theorem loadPostInc_ok (h : memRead w (s.reg rm) s = .ok v m) (hreg : m.reg rm = s.reg rm) :
    loadPostInc w rm rn s =
      .next (((m.setReg rm (s.reg rm + w.size)).setReg rn (loadedValue w true v)).advance 2) := by
  rw [loadPostInc, h, ← signed_eq_loadedValue, ← hreg]
  rfl

theorem loadPreDec_ok (h : memRead w (s.reg rm - w.size) s = .ok v m) (hreg : m.reg rm = s.reg rm) :
    loadPreDec w rm s =
      .next (((m.setReg rm (s.reg rm - w.size)).setReg 0 (loadedValue w true v)).advance 2) := by
  rw [loadPreDec, h, ← signed_eq_loadedValue, ← hreg]
  rfl

theorem store16_ok (h : memWrite w ea v s = .ok () m) : store16 w ea v s = .next (m.advance 2) := by
  rw [store16, h]
  rfl

theorem store32_ok (h : memWrite w ea v s = .ok () m) : store32 w ea v s = .next (m.advance 4) := by
  rw [store32, h]
  rfl

theorem storePreDec_ok (h : memWrite w (s.reg rn - w.size) v s = .ok () m) (hreg : m.reg rn = s.reg rn) :
    storePreDec w v rn s = .next ((m.setReg rn (s.reg rn - w.size)).advance 2) := by
  rw [storePreDec, h, ← hreg]
  rfl

theorem storePostInc_ok (h : memWrite w (s.reg rn) (s.reg 0) s = .ok () m) (hreg : m.reg rn = s.reg rn) :
    storePostInc w rn s = .next ((m.setReg rn (s.reg rn + w.size)).advance 2) := by
  rw [storePostInc, h, ← hreg]
  rfl

theorem popTo_ok {set : Word → State → State} (h : memRead .long (s.reg rm) s = .ok v m)
    (hreg : m.reg rm = s.reg rm) : popTo set rm s = .next ((set v (m.setReg rm (s.reg rm + 4))).advance 2) := by
  rw [popTo, h, ← hreg]
  rfl

/-- CAS.L of a place that holds another value than Rm's stores nothing (40_data_transfer.md R260). -/
theorem compareAndSwap_unequal {p : Place} {u l : State} (h : resolve .write s.md .long (s.reg 0) s = .ok p u)
    (hread : readPlace .long p u = .ok v l) (hv : v ≠ l.reg rm) :
    compareAndSwap rm rn s = .next (((l.setReg rn v).setT false).advance 2) := by
  rw [compareAndSwap, h, Access.andThen, hread, Access.andThen, if_neg hv]
  rfl

/-- CAS.L of a place that holds Rm's value stores Rn's. -/
theorem compareAndSwap_equal {p : Place} {u l : State} (h : resolve .write s.md .long (s.reg 0) s = .ok p u)
    (hread : readPlace .long p u = .ok v l) (hv : v = l.reg rm)
    (hwrite : writePlace .long (l.reg rn) p l = .ok () m) :
    compareAndSwap rm rn s = .next (((m.setReg rn v).setT true).advance 2) := by
  rw [compareAndSwap, h, Access.andThen, hread, Access.andThen, if_pos hv, hwrite]
  rfl

/-! ### Which instruction has which shape -/

theorem indexed_of_defined (h : indexDefined ro = true) : indexed ro k = k := by
  rw [indexed, if_neg (bne_iff_ne.mp h)]

/-- A load once its access has answered. -/
theorem exec_load {f : LoadForm} (hf : loadForm s i = some f) (hs : Startable i s) (hd : i.operandsDefined = true)
    (h : memRead f.width f.addr s = .ok v m) :
    exec i s = .next ((m.setReg f.dest (loadedValue f.width f.signed v)).advance i.size) := by
  cases i with
  | movBLoadR0Idx | movWLoadR0Idx | movLLoadR0Idx | movBLoadInd | movWLoadInd | movLLoadInd | movLLoadDisp4
  | movBLoadR0Disp4 | movWLoadR0Disp4 | movBLoadGbr8 | movWLoadGbr8 | movLLoadGbr8 =>
    cases hf
    exact load16_ok h
  | movBLoadPcR0 | movWLoadPcR0 | movLLoadPcR0 | movWLoadPcDisp | movLLoadPcDisp =>
    cases hf
    exact (notInSlot_of_none (hs rfl)).trans (load16_ok h)
  | movBLoadGbr12 | movWLoadGbr12 | movLLoadGbr12 | movBLoadDisp8 | movWLoadDisp8 | movLLoadDisp8 =>
    cases hf
    exact (notInSlot_of_none (hs rfl)).trans (load32_ok h)
  | movuBLoadDisp8 | movuWLoadDisp8 =>
    cases hf
    exact (notInSlot_of_none (hs rfl)).trans (loadZero32_ok h)
  | movBLoadIdx4 | movWLoadIdx4 | movLLoadIdx4 | movLLoadIdx8 =>
    cases hf
    exact (notInSlot_of_none (hs rfl)).trans ((indexed_of_defined hd).trans (load32_ok h))
  | movuBLoadIdx | movuWLoadIdx =>
    cases hf
    exact (notInSlot_of_none (hs rfl)).trans ((indexed_of_defined hd).trans (loadZero32_ok h))
  | _ => cases hf

/-- A load that steps its address register; where that is the destination too, the loaded value stays. -/
theorem exec_stepLoad {f : StepForm} (hf : stepLoadForm s i = some (f, rn)) (h : memRead f.width f.addr s = .ok v m)
    (hreg : ∀ r, m.reg r = s.reg r) :
    exec i s = .next (((m.setReg f.pointer f.after).setReg rn (loadedValue f.width true v)).advance i.size) := by
  cases i with
  | movBLoadPostInc | movWLoadPostInc | movLLoadPostInc =>
    cases hf
    exact loadPostInc_ok h (hreg _)
  | movBLoadR0PreDec | movWLoadR0PreDec | movLLoadR0PreDec =>
    cases hf
    exact loadPreDec_ok h (hreg _)
  | _ => cases hf

/-- A store once its access is made. -/
theorem exec_store {f : StoreForm} (hf : storeForm s i = some f) (hs : Startable i s) (hd : i.operandsDefined = true)
    (h : memWrite f.width f.addr f.value s = .ok () m) : exec i s = .next (m.advance i.size) := by
  cases i with
  | movBStoreR0Idx | movWStoreR0Idx | movLStoreR0Idx | movBStoreInd | movWStoreInd | movLStoreInd | movLStoreDisp4
  | movBStoreR0Disp4 | movWStoreR0Disp4 | movcaL | movBStoreGbr8 | movWStoreGbr8 | movLStoreGbr8 =>
    cases hf
    exact store16_ok h
  | movBStorePcR0 | movWStorePcR0 | movLStorePcR0 =>
    cases hf
    exact (notInSlot_of_none (hs rfl)).trans (store16_ok h)
  | movBStoreGbr12 | movWStoreGbr12 | movLStoreGbr12 | movBStoreDisp8 | movWStoreDisp8 | movLStoreDisp8 =>
    cases hf
    exact (notInSlot_of_none (hs rfl)).trans (store32_ok h)
  | movBStoreIdx4 | movWStoreIdx4 | movLStoreIdx4 | movLStoreIdx8 =>
    cases hf
    exact (notInSlot_of_none (hs rfl)).trans ((indexed_of_defined hd).trans (store32_ok h))
  | _ => cases hf

/-- A store that steps its address register, STC.L and STS.L among them. -/
theorem exec_stepStore {f : StepForm} (hf : stepStoreForm s i = some (f, v)) (hm : ModeAllows i s)
    (hfpu : fpuInstr i = true → FpuOn s) (h : memWrite f.width f.addr v s = .ok () m)
    (hreg : ∀ r, m.reg r = s.reg r) : exec i s = .next ((m.setReg f.pointer f.after).advance i.size) := by
  cases i with
  | movBStorePreDec | movWStorePreDec | movLStorePreDec | stclGbr | stslMach | stslMacl | stslPr =>
    cases hf
    exact storePreDec_ok h (hreg _)
  | movBStoreR0PostInc | movWStoreR0PostInc | movLStoreR0PostInc =>
    cases hf
    exact storePostInc_ok h (hreg _)
  | stclSr | stclVbr | stclSsr | stclSpc | stclSgr | stclDbr | stclBank =>
    cases hf
    exact (privileged_of_md (hm rfl)).trans (storePreDec_ok h (hreg _))
  | stslFpul | stslFpscr =>
    cases hf
    exact (fpuGated_of_on (hfpu rfl).1 (hfpu rfl).2).trans (storePreDec_ok h (hreg _))
  | _ => cases hf

/-- LDC.L and LDS.L of a special register. -/
theorem exec_pop {x : Special} (hp : popPointer i = some rm) (hx : controlOf i = some x) (hm : ModeAllows i s)
    (hfpu : fpuInstr i = true → FpuOn s) (h : memRead .long (s.reg rm) s = .ok v m) (hreg : m.reg rm = s.reg rm) :
    exec i s = .next (((m.setReg rm (s.reg rm + 4)).setSpecial x v).advance i.size) := by
  cases i with
  | ldclGbr =>
    cases hp
    cases hx
    exact popTo_ok (set := fun v t => t.setGbr v) h hreg
  | ldslMach =>
    cases hp
    cases hx
    exact popTo_ok (set := fun v t => t.setMach v) h hreg
  | ldslMacl =>
    cases hp
    cases hx
    exact popTo_ok (set := fun v t => t.setMacl v) h hreg
  | ldslPr =>
    cases hp
    cases hx
    exact popTo_ok (set := fun v t => t.setPr v) h hreg
  | ldclVbr | ldclSsr | ldclSpc | ldclSgr | ldclDbr =>
    cases hp
    cases hx
    exact (privileged_of_md (hm rfl)).trans (popTo_ok h hreg)
  | ldslFpul | ldslFpscr =>
    cases hp
    cases hx
    exact (fpuGated_of_on (hfpu rfl).1 (hfpu rfl).2).trans (popTo_ok h hreg)
  | _ => cases hp

/-! ### Floating-point loads and stores -/

theorem fpScale_eq (s : State) : fpScale s = fpStepScale s := by
  rw [fpScale, fpStepScale]
  cases s.sz <;> cases s.cfg.fmovPairScale <;> rfl

theorem fpuBanked_of_fpuReady (h : FpuReady s) : fpuBanked s k = k := by
  obtain ⟨⟨hfd, hprofile⟩, hbank⟩ := h
  exact fpuBanked_of_ready hfd hprofile hbank

theorem pairPresent_of_exists {r : FReg} (h : PairExists s r) : pairPresent s r k = k :=
  if_neg fun ⟨hbasic, hodd⟩ => Bool.false_ne_true ((h hbasic).symm.trans hodd)

section
variable {r : FReg} {d : DWord} {fin : State → Res}

theorem fpLoad_cell (hsz : s.sz = false) (h : memRead .long ea s = .ok v m) :
    fpLoad r ea fin s = fin (m.setFr r v) := by
  rw [fpLoad, if_neg (Bool.eq_false_iff.mp hsz), h, Access.andThen]

theorem fpLoad_pair (hsz : s.sz = true) (hr : PairExists s r) (h : pairRead ea s = .ok d m) :
    fpLoad r ea fin s = fin (m.setDr r d) := by
  rw [fpLoad, if_pos hsz, pairPresent_of_exists hr, h, Access.andThen]

theorem fpStore_cell (hsz : s.sz = false) (h : memWrite .long ea (s.fr r) s = .ok () m) :
    fpStore r ea fin s = fin m := by
  rw [fpStore, if_neg (Bool.eq_false_iff.mp hsz), h, Access.andThen]

theorem fpStore_pair (hsz : s.sz = true) (hr : PairExists s r) (h : pairWrite ea (s.dr r) s = .ok () m) :
    fpStore r ea fin s = fin m := by
  rw [fpStore, if_pos hsz, pairPresent_of_exists hr, h, Access.andThen]

end

theorem exec_fpLoad {f : FpAccessForm} (hf : fpLoadForm s i = some f) (hs : Startable i s)
    (hd : i.operandsDefined = true) (hr : FpuReady s) :
    exec i s = fpLoad f.reg f.addr (fun t => .next ((t.stepPointer f.step).advance i.size)) s := by
  cases i with
  | fmovLoadR0Idx | fmovLoadInd | fmovLoadPostInc =>
    cases hf
    exact fpuBanked_of_fpuReady hr
  | fmovLoadPcR0 =>
    cases hf
    exact (notInSlot_of_none (hs rfl)).trans (fpuBanked_of_fpuReady hr)
  | fmovLoadDisp8 =>
    cases hf
    refine (notInSlot_of_none (hs rfl)).trans ((fpuBanked_of_fpuReady hr).trans ?_)
    rw [fpScale_eq]
    rfl
  | fmovLoadIdx =>
    cases hf
    refine (notInSlot_of_none (hs rfl)).trans ((fpuBanked_of_fpuReady hr).trans ((indexed_of_defined hd).trans ?_))
    rw [fpScale_eq]
    rfl
  | _ => cases hf

theorem exec_fpStore {f : FpAccessForm} (hf : fpStoreForm s i = some f) (hs : Startable i s)
    (hd : i.operandsDefined = true) (hr : FpuReady s) :
    exec i s = fpStore f.reg f.addr (fun t => .next ((t.stepPointer f.step).advance i.size)) s := by
  cases i with
  | fmovStoreR0Idx | fmovStoreInd | fmovStorePreDec =>
    cases hf
    exact fpuBanked_of_fpuReady hr
  | fmovStorePcR0 =>
    cases hf
    exact (notInSlot_of_none (hs rfl)).trans (fpuBanked_of_fpuReady hr)
  | fmovStoreDisp8 =>
    cases hf
    refine (notInSlot_of_none (hs rfl)).trans ((fpuBanked_of_fpuReady hr).trans ?_)
    rw [fpScale_eq]
    rfl
  | fmovStoreIdx =>
    cases hf
    refine (notInSlot_of_none (hs rfl)).trans ((fpuBanked_of_fpuReady hr).trans ((indexed_of_defined hd).trans ?_))
    rw [fpScale_eq]
    rfl
  | _ => cases hf

end

end Sys2Proof.Machine
end

section
/-! PROOF. Every load and store, whatever place its access reaches. -/

namespace Sys2Proof.Machine

open Sys2Proof.Safety

section
variable {i : Instr} {s u : State} {p : Place} {v : Word} {rm rn : Reg}

/-- A load that steps no address register. -/
theorem load_result {f : LoadForm} (hf : loadForm s i = some f) (hs : Startable i s) (hd : i.operandsDefined = true)
    (hr : resolve .read s.md f.width f.addr s = .ok p u) :
    ∃ v m t, Finds f.width p v s m ∧ exec i s = .next t ∧ t.reg f.dest = loadedValue f.width f.signed v ∧
      Completed i s t ∧ Frame m t [f.dest] [] [] [] [] := by
  obtain ⟨v, m, hread, hfinds⟩ := memRead_finds hr
  have hcore := keepsCore_of_finds hfinds
  exact ⟨v, m, _, hfinds, exec_load hf hs hd hread, by rw [State.reg_advance, State.reg_setReg_same],
    completed_advance hcore.pc hcore.pending, frame_then_advance frame_setReg⟩

/-- A load that steps its address register; where that is the destination too, the loaded value stays. -/
theorem stepLoad_result {f : StepForm} (hf : stepLoadForm s i = some (f, rn))
    (hr : resolve .read s.md f.width f.addr s = .ok p u) :
    ∃ v m t, Finds f.width p v s m ∧ exec i s = .next t ∧ t.reg rn = loadedValue f.width true v ∧
      (f.pointer ≠ rn → t.reg f.pointer = f.after) ∧ Completed i s t ∧ Frame m t [f.pointer, rn] [] [] [] [] := by
  obtain ⟨v, m, hread, hfinds⟩ := memRead_finds hr
  have hcore := keepsCore_of_finds hfinds
  refine ⟨v, m, _, hfinds, exec_stepLoad hf hread hcore.reg, ?_, fun hne => ?_,
    completed_advance hcore.pc hcore.pending, frame_then_advance (frame_trans frame_setReg frame_setReg)⟩
  · rw [State.reg_advance, State.reg_setReg_same]
  · rw [State.reg_advance, State.reg_setReg_ne _ _ hne, State.reg_setReg_same]

/-- A store that steps no address register. -/
theorem store_result {f : StoreForm} (hf : storeForm s i = some f) (hs : Startable i s) (hd : i.operandsDefined = true)
    (hr : resolve .write s.md f.width f.addr s = .ok p u) (hp : PlaceAccepts s.cfg p f.value) :
    ∃ m t, Takes f.width p f.value s m ∧ exec i s = .next t ∧ Completed i s t ∧ Frame m t [] [] [] [] [] := by
  obtain ⟨m, hwrite, htakes, hcore⟩ := memWrite_takes hr hp
  exact ⟨m, _, htakes, exec_store hf hs hd hwrite, completed_advance hcore.pc hcore.pending, frame_advance⟩

/-- A store that steps its address register, STC.L and STS.L among them. -/
theorem stepStore_result {f : StepForm} (hf : stepStoreForm s i = some (f, v)) (hm : ModeAllows i s)
    (hfpu : fpuInstr i = true → FpuOn s) (hr : resolve .write s.md f.width f.addr s = .ok p u)
    (hp : PlaceAccepts s.cfg p v) :
    ∃ m t, Takes f.width p v s m ∧ exec i s = .next t ∧ t.reg f.pointer = f.after ∧ Completed i s t ∧
      Frame m t [f.pointer] [] [] [] [] := by
  obtain ⟨m, hwrite, htakes, hcore⟩ := memWrite_takes hr hp
  exact ⟨m, _, htakes, exec_stepStore hf hm hfpu hwrite hcore.reg, by rw [State.reg_advance, State.reg_setReg_same],
    completed_advance hcore.pc hcore.pending, frame_then_advance frame_setReg⟩

/-! ### LDC.L and LDS.L -/

/-- LDC.L of SR under the SR of before is the pointer step alone. -/
theorem setSr_advance_with_sr {n : Word} : { (s.setSr v).advance n with sr := s.sr } = s.advance n := rfl

/-- LDC.L of a bank register under the registers of before is nothing. -/
theorem setOtherBank_advance_with_banks {b : BReg} {a n : Word} :
    { ((s.setReg rm a).setOtherBank b v).advance n with bankA := s.bankA, bankB := s.bankB, high := s.high } =
      s.advance n := rfl

theorem controlOf_of_popPointer (h : popPointer i = some rm) : ∃ x, controlOf i = some x := by
  cases i with
  | ldclGbr | ldclVbr | ldclSsr | ldclSpc | ldclSgr | ldclDbr | ldslMach | ldslMacl | ldslPr | ldslFpul | ldslFpscr =>
    exact ⟨_, rfl⟩
  | _ => cases h

theorem pop_result {x : Special} (hl : popPointer i = some rm) (hx : controlOf i = some x) (hm : ModeAllows i s)
    (hfpu : fpuInstr i = true → FpuOn s) (hr : resolve .read s.md .long (s.reg rm) s = .ok p u) :
    ∃ v m t, Finds .long p v s m ∧ exec i s = .next t ∧ Completed i s t ∧ special t x = v ∧
      t.reg rm = s.reg rm + 4 ∧ Frame m t [rm] [] [x] [] [] := by
  obtain ⟨v, m, hread, hfinds⟩ := memRead_finds hr
  have hcore := keepsCore_of_finds hfinds
  refine ⟨v, m, _, hfinds, exec_pop hl hx hm hfpu hread (hcore.reg rm),
    completed_advance hcore.pc hcore.pending, ?_, ?_,
    frame_then_advance (frame_trans frame_setReg frame_setSpecial)⟩
  · rw [frame_advance.special x List.not_mem_nil, special_setSpecial, if_pos rfl]
  · rw [State.reg_advance, frame_setSpecial.reg rm List.not_mem_nil, State.reg_setReg_same]

theorem popSr_result (hm : s.md = true) (hr : resolve .read s.md .long (s.reg rm) s = .ok p u) :
    ∃ v m t, Finds .long p v s m ∧ exec (.ldclSr rm) s = .next t ∧ Completed (.ldclSr rm) s t ∧
      t.sr = v &&& 0x700083F3 ∧ ({ t with sr := s.sr } : State).reg rm = s.reg rm + 4 ∧
      Frame m { t with sr := s.sr } [rm] [] [] [] [] := by
  obtain ⟨v, m, hread, hfinds⟩ := memRead_finds hr
  have hcore := keepsCore_of_finds hfinds
  have hrestore : { ((m.setReg rm (s.reg rm + 4)).setSr v).advance 2 with sr := s.sr } =
      (m.setReg rm (s.reg rm + 4)).advance 2 := hcore.sr ▸ setSr_advance_with_sr
  refine ⟨v, m, _, hfinds, (privileged_of_md hm).trans (popTo_ok hread (hcore.reg rm)),
    completed_advance hcore.pc hcore.pending, rfl, ?_, ?_⟩
  · rw [hrestore, State.reg_advance, State.reg_setReg_same]
  · rw [hrestore]
    exact frame_then_advance frame_setReg

theorem popBank_result {b : BReg} (hm : s.md = true) (hr : resolve .read s.md .long (s.reg rm) s = .ok p u) :
    ∃ v m t, Finds .long p v s m ∧ exec (.ldclBank rm b) s = .next t ∧ Completed (.ldclBank rm b) s t ∧
      t.otherBank b = v ∧ (∀ c, c ≠ b → t.otherBank c = s.otherBank c) ∧ t.reg rm = s.reg rm + 4 ∧
      (∀ q, q ≠ rm → t.reg q = s.reg q) ∧
      Frame m { t with bankA := s.bankA, bankB := s.bankB, high := s.high } [] [] [] [] [] := by
  obtain ⟨v, m, hread, hfinds⟩ := memRead_finds hr
  have hcore := keepsCore_of_finds hfinds
  refine ⟨v, m, _, hfinds, (privileged_of_md hm).trans (popTo_ok hread (hcore.reg rm)),
    completed_advance hcore.pc hcore.pending, ?_, fun c hc => ?_, ?_, fun q hq => ?_, ?_⟩
  · rw [frame_advance.bank, State.otherBank_setOtherBank, if_pos rfl]
  · rw [frame_advance.bank, State.otherBank_setOtherBank, if_neg hc, State.otherBank_setReg, hcore.otherBank]
  · rw [State.reg_advance, State.reg_setOtherBank, State.reg_setReg_same]
  · rw [State.reg_advance, State.reg_setOtherBank, State.reg_setReg_ne _ _ hq, hcore.reg]
  · rw [← hcore.bankA, ← hcore.bankB, ← hcore.high, setOtherBank_advance_with_banks]
    exact frame_advance

/-- LDC.L and LDS.L of every register, by which of the three kinds of register it is. -/
theorem loadPointer_result (hl : loadPointer i = some rm) (hm : ModeAllows i s) (hfpu : fpuInstr i = true → FpuOn s)
    (hr : resolve .read s.md .long (s.reg rm) s = .ok p u) :
    ∃ v m t, Finds .long p v s m ∧ exec i s = .next t ∧ Completed i s t ∧
      (∀ x, controlOf i = some x → special t x = v ∧ t.reg rm = s.reg rm + 4 ∧ Frame m t [rm] [] [x] [] []) ∧
      (i = .ldclSr rm → t.sr = v &&& 0x700083F3 ∧ ({ t with sr := s.sr } : State).reg rm = s.reg rm + 4 ∧
        Frame m { t with sr := s.sr } [rm] [] [] [] []) ∧
      (∀ b, i = .ldclBank rm b → t.otherBank b = v ∧ (∀ c, c ≠ b → t.otherBank c = s.otherBank c) ∧
        t.reg rm = s.reg rm + 4 ∧ (∀ q, q ≠ rm → t.reg q = s.reg q) ∧
        Frame m { t with bankA := s.bankA, bankB := s.bankB, high := s.high } [] [] [] [] []) := by
  unfold loadPointer at hl
  split at hl
  · cases hl
    obtain ⟨v, m, t, hfinds, hexec, hdone, hresult⟩ := popSr_result (hm rfl) hr
    refine ⟨v, m, t, hfinds, hexec, hdone, fun x hx => ?_, fun _ => hresult, fun b hb => ?_⟩
    · cases hx
    · cases hb
  · cases hl
    obtain ⟨v, m, t, hfinds, hexec, hdone, hresult⟩ := popBank_result (hm rfl) hr
    refine ⟨v, m, t, hfinds, hexec, hdone, fun x hx => ?_, fun hsr => ?_, fun b hb => ?_⟩
    · cases hx
    · cases hsr
    · cases hb
      exact hresult
  · obtain ⟨x, hx⟩ := controlOf_of_popPointer hl
    obtain ⟨v, m, t, hfinds, hexec, hdone, hresult⟩ := pop_result hl hx hm hfpu hr
    refine ⟨v, m, t, hfinds, hexec, hdone, fun y hy => ?_, ?_, ?_⟩
    · cases hx.symm.trans hy
      exact hresult
    · rintro rfl
      cases hl
    · rintro b rfl
      cases hl

/-! ### CAS.L -/

/-- CAS.L, which stores only where the value found is Rm's. -/
theorem compareAndSwap_result (hr : resolve .write s.md .long (s.reg 0) s = .ok p u) :
    ∃ v l, Finds .long p v s l ∧
      (v ≠ s.reg rm → ∃ t, exec (.casL rm rn) s = .next t ∧ t.reg rn = v ∧ t.t = false ∧ Completed (.casL rm rn) s t ∧
        Frame l t [rn] [0] [] [] []) ∧
      (v = s.reg rm → PlaceAccepts s.cfg p (s.reg rn) → ∃ m t, Takes .long p (s.reg rn) l m ∧
        exec (.casL rm rn) s = .next t ∧ t.reg rn = v ∧ t.t = true ∧ Completed (.casL rm rn) s t ∧
        Frame m t [rn] [0] [] [] []) := by
  obtain ⟨v, l, hread, hfinds⟩ := exists_readPlace .long p (resolve_onlyDrawn hr)
  have hcore := keepsCore_of_finds hfinds
  refine ⟨v, l, hfinds, fun hne => ?_, fun heq hp => ?_⟩
  · rw [← hcore.reg rm] at hne
    exact ⟨_, compareAndSwap_unequal hr hread hne, by rw [State.reg_advance, State.reg_setT, State.reg_setReg_same],
      State.t_setT .., completed_advance hcore.pc hcore.pending,
      frame_then_advance (frame_trans frame_setReg frame_setT)⟩
  · rw [← hcore.reg rm] at heq
    rw [← hcore.cfg, ← hcore.reg rn] at hp
    obtain ⟨m, hwrite, htakes, hkept⟩ := exists_writePlace .long OnlyDrawn.refl hp
    have hcore' := hcore.trans hkept
    exact ⟨m, _, hcore.reg rn ▸ htakes, compareAndSwap_equal hr hread heq hwrite,
      by rw [State.reg_advance, State.reg_setT, State.reg_setReg_same], State.t_setT ..,
      completed_advance hcore'.pc hcore'.pending, frame_then_advance (frame_trans frame_setReg frame_setT)⟩

/-! ### FMOV.S -/

section
variable {f : FpAccessForm} {q : Place} {x : State} {a b : Word}

theorem completed_stepPointer_advance {step : Option (Reg × Word)} {t : State} (hpc : t.pc = s.pc)
    (hpending : t.pending = s.pending) : Completed i s ((t.stepPointer step).advance i.size) :=
  completed_advance (State.stepPointer_pc.trans hpc) (State.stepPointer_pending.trans hpending)

theorem reg_stepPointer_advance {step : Option (Reg × Word)} {n : Word} (r : Reg × Word) (h : step = some r) :
    ((s.stepPointer step).advance n).reg r.1 = r.2 := by
  rw [State.reg_advance, State.reg_stepPointer h]

theorem fpLoad_cell_result (hf : fpLoadForm s i = some f) (hs : Startable i s) (hd : i.operandsDefined = true)
    (hfpu : FpuReady s) (hr : resolve .read s.md .long f.addr s = .ok p u) (hsz : s.sz = false) :
    ∃ v m t, Finds .long p v s m ∧ exec i s = .next t ∧ t.fr f.reg = v ∧ (∀ r, f.step = some r → t.reg r.1 = r.2) ∧
      Completed i s t ∧ Frame m t (f.step.toList.map Prod.fst) [] [] [(s.frBit, f.reg)] [] := by
  obtain ⟨v, m, hread, hfinds⟩ := memRead_finds hr
  have hcore := keepsCore_of_finds hfinds
  refine ⟨v, m, _, hfinds, (exec_fpLoad hf hs hd hfpu).trans (fpLoad_cell hsz hread), ?_, reg_stepPointer_advance,
    completed_stepPointer_advance hcore.pc hcore.pending, ?_⟩
  · exact (State.fr_stepPointer f.reg).trans ((m.fr_setFr f.reg f.reg v).trans (if_pos rfl))
  · rw [← hcore.frBit]
    exact frame_then_advance (frame_trans frame_setFr frame_stepPointer)

theorem fpLoad_pair_result (hf : fpLoadForm s i = some f) (hs : Startable i s) (hd : i.operandsDefined = true)
    (hfpu : FpuReady s) (hr : resolve .read s.md .long f.addr s = .ok p u) (hsz : s.sz = true)
    (hpair : PairExists s f.reg) (hr' : resolve .read s.md .long (f.addr + 4) u = .ok q x) :
    ∃ a b m n t, Finds .long p a s m ∧ Finds .long q b m n ∧ exec i s = .next t ∧
      t.dr f.reg = pairInMemory s a b ∧ (∀ r, f.step = some r → t.reg r.1 = r.2) ∧ Completed i s t ∧
      Frame n t (f.step.toList.map Prod.fst) [] [] (pairCells s f.reg) [] := by
  obtain ⟨a, b, m, n, hread, hfinds, hfinds'⟩ := pairRead_finds hr hr'
  have hcore := (keepsCore_of_finds hfinds).trans (keepsCore_of_finds hfinds')
  refine ⟨a, b, m, n, _, hfinds, hfinds', (exec_fpLoad hf hs hd hfpu).trans (fpLoad_pair hsz hpair hread), ?_,
    reg_stepPointer_advance, completed_stepPointer_advance hcore.pc hcore.pending, ?_⟩
  · exact (State.dr_stepPointer f.reg).trans (n.dr_setDr_same f.reg _)
  · rw [← hcore.pairCells]
    exact frame_then_advance (frame_trans frame_setDr frame_stepPointer)

theorem fpStore_cell_result (hf : fpStoreForm s i = some f) (hs : Startable i s) (hd : i.operandsDefined = true)
    (hfpu : FpuReady s) (hr : resolve .write s.md .long f.addr s = .ok p u) (hsz : s.sz = false)
    (hp : PlaceAccepts s.cfg p (s.fr f.reg)) :
    ∃ m t, Takes .long p (s.fr f.reg) s m ∧ exec i s = .next t ∧ (∀ r, f.step = some r → t.reg r.1 = r.2) ∧
      Completed i s t ∧ Frame m t (f.step.toList.map Prod.fst) [] [] [] [] := by
  obtain ⟨m, hwrite, htakes, hcore⟩ := memWrite_takes hr hp
  exact ⟨m, _, htakes, (exec_fpStore hf hs hd hfpu).trans (fpStore_cell hsz hwrite), reg_stepPointer_advance,
    completed_stepPointer_advance hcore.pc hcore.pending, frame_then_advance frame_stepPointer⟩

theorem fpStore_pair_result (hf : fpStoreForm s i = some f) (hs : Startable i s) (hd : i.operandsDefined = true)
    (hfpu : FpuReady s) (hr : resolve .write s.md .long f.addr s = .ok p u) (hsz : s.sz = true)
    (hpair : PairExists s f.reg) (hr' : resolve .write s.md .long (f.addr + 4) u = .ok q x)
    (hwords : pairInMemory s a b = s.dr f.reg) (hp : PlaceAccepts s.cfg p a) (hq : PlaceAccepts s.cfg q b) :
    ∃ m n t, Takes .long p a s m ∧ Takes .long q b m n ∧ exec i s = .next t ∧
      (∀ r, f.step = some r → t.reg r.1 = r.2) ∧ Completed i s t ∧
      Frame n t (f.step.toList.map Prod.fst) [] [] [] [] := by
  obtain ⟨m, n, hwrite, htakes, htakes', hcore⟩ := pairWrite_takes hr hr' hwords hp hq
  exact ⟨m, n, _, htakes, htakes', (exec_fpStore hf hs hd hfpu).trans (fpStore_pair hsz hpair hwrite),
    reg_stepPointer_advance, completed_stepPointer_advance hcore.pc hcore.pending, frame_then_advance frame_stepPointer⟩

end

end

/-- Settles O40: each shape of load and store, by what the place its access reaches finds or takes. -/
theorem registerAndDeviceAccesses : Obligations.RegisterAndDeviceAccesses := by
  intro i s u p hs hd hm hfpu
  refine ⟨fun f hf => load_result hf hs hd, fun f rn hf => stepLoad_result hf, fun f hf => store_result hf hs hd,
    fun f v hf => stepStore_result hf hm hfpu, fun rm hl => loadPointer_result hl hm hfpu, ?_, ?_, ?_⟩
  · rintro rm rn rfl hr
    exact compareAndSwap_result hr
  · exact fun f hf hready hr => ⟨fpLoad_cell_result hf hs hd hready hr,
      fun hsz hpair q x hr' => fpLoad_pair_result hf hs hd hready hr hsz hpair hr'⟩
  · exact fun f hf hready hr => ⟨fpStore_cell_result hf hs hd hready hr,
      fun hsz hpair q x a b hr' => fpStore_pair_result hf hs hd hready hr hsz hpair hr'⟩

end Sys2Proof.Machine
end

section
/-! PROOF. An access that raises: nothing but the draw counter differs, and the instruction, or the fetch of a step, is
that exception (20_memory.md R85, R87, R88; 40_data_transfer.md R202). -/

namespace Sys2Proof.Machine

open Sys2Proof.Safety

/-- An access to a cell or, with SZ = 1, to a pair raises: the first access does, or it succeeds and the second does
(45_fpu.md R522). -/
def FpAccessRaises (k : AccessKind) (va : Word) (e : Exc) (s u : State) : Prop :=
  resolve k s.md .long va s = .exc e u ∨
    (s.sz = true ∧ ∃ place v, resolve k s.md .long va s = .ok place v ∧
      resolve k s.md .long (va + 4) v = .exc e u)

section
variable {s u : State} {i : Instr} {k : AccessKind} {md : Bool} {w : Width} {va : Word} {e : Exc} {rm rn : Reg}

/-! ### The state an exception is raised in -/

theorem resolve_exc_onlyDrawn (h : resolve k md w va s = .exc e u) : OnlyDrawn s u := by
  rcases (resolve_exc_state h).2 with rfl | rfl
  · exact .refl
  · exact ⟨s.free + 1, rfl⟩

theorem OnlyDrawn.eq_with_free (h : OnlyDrawn s u) : u = { s with free := u.free } := by
  obtain ⟨n, rfl⟩ := h
  rfl

theorem FpAccessRaises.onlyDrawn (h : FpAccessRaises k va e s u) : OnlyDrawn s u := by
  rcases h with hfirst | ⟨-, place, v, hfirst, hsecond⟩
  · exact resolve_exc_onlyDrawn hfirst
  · exact (resolve_onlyDrawn hfirst).trans (resolve_exc_onlyDrawn hsecond)

/-! ### Instructions with one access -/

theorem compareAndSwap_exc (h : resolve .write s.md .long (s.reg 0) s = .exc e u) :
    compareAndSwap rm rn s = raise e u := by
  rw [compareAndSwap, h, Access.andThen]

/-- Past the checks that come before it, an instruction with one access raises what the access raises. -/
theorem exec_access_exc {f : AccessForm} (hf : accessForm s i = some f) (hs : Startable i s) (hm : ModeAllows i s)
    (hd : i.operandsDefined = true) (hfpu : fpuInstr i = true → FpuOn s)
    (h : resolve f.kind s.md f.width f.addr s = .exc e u) : exec i s = raise e u := by
  cases i with
  -- Loads.
  | movBLoadR0Idx | movWLoadR0Idx | movLLoadR0Idx | movBLoadInd | movWLoadInd | movLLoadInd | movLLoadDisp4
  | movBLoadR0Disp4 | movWLoadR0Disp4 | movBLoadGbr8 | movWLoadGbr8 | movLLoadGbr8 =>
    cases hf
    exact load16_exc h
  | movBLoadPcR0 | movWLoadPcR0 | movLLoadPcR0 | movWLoadPcDisp | movLLoadPcDisp =>
    cases hf
    exact (notInSlot_of_none (hs rfl)).trans (load16_exc h)
  | movBLoadGbr12 | movWLoadGbr12 | movLLoadGbr12 | movBLoadDisp8 | movWLoadDisp8 | movLLoadDisp8 =>
    cases hf
    exact (notInSlot_of_none (hs rfl)).trans (load32_exc h)
  | movuBLoadDisp8 | movuWLoadDisp8 =>
    cases hf
    exact (notInSlot_of_none (hs rfl)).trans (loadZero32_exc h)
  | movBLoadIdx4 | movWLoadIdx4 | movLLoadIdx4 | movLLoadIdx8 =>
    cases hf
    exact (notInSlot_of_none (hs rfl)).trans ((indexed_of_defined hd).trans (load32_exc h))
  | movuBLoadIdx | movuWLoadIdx =>
    cases hf
    exact (notInSlot_of_none (hs rfl)).trans ((indexed_of_defined hd).trans (loadZero32_exc h))
  | movBLoadPostInc | movWLoadPostInc | movLLoadPostInc =>
    cases hf
    exact loadPostInc_exc h
  | movBLoadR0PreDec | movWLoadR0PreDec | movLLoadR0PreDec =>
    cases hf
    exact loadPreDec_exc h
  -- Stores.
  | movBStoreR0Idx | movWStoreR0Idx | movLStoreR0Idx | movBStoreInd | movWStoreInd | movLStoreInd | movLStoreDisp4
  | movBStoreR0Disp4 | movWStoreR0Disp4 | movcaL | movBStoreGbr8 | movWStoreGbr8 | movLStoreGbr8 =>
    cases hf
    exact store16_exc h
  | movBStorePcR0 | movWStorePcR0 | movLStorePcR0 =>
    cases hf
    exact (notInSlot_of_none (hs rfl)).trans (store16_exc h)
  | movBStoreGbr12 | movWStoreGbr12 | movLStoreGbr12 | movBStoreDisp8 | movWStoreDisp8 | movLStoreDisp8 =>
    cases hf
    exact (notInSlot_of_none (hs rfl)).trans (store32_exc h)
  | movBStoreIdx4 | movWStoreIdx4 | movLStoreIdx4 | movLStoreIdx8 =>
    cases hf
    exact (notInSlot_of_none (hs rfl)).trans ((indexed_of_defined hd).trans (store32_exc h))
  | movBStorePreDec | movWStorePreDec | movLStorePreDec | stclGbr | stslMach | stslMacl | stslPr =>
    cases hf
    exact storePreDec_exc h
  | movBStoreR0PostInc | movWStoreR0PostInc | movLStoreR0PostInc =>
    cases hf
    exact storePostInc_exc h
  | stclSr | stclVbr | stclSsr | stclSpc | stclSgr | stclDbr | stclBank =>
    cases hf
    exact (privileged_of_md (hm rfl)).trans (storePreDec_exc h)
  | stslFpul | stslFpscr =>
    cases hf
    exact (fpuGated_of_on (hfpu rfl).1 (hfpu rfl).2).trans (storePreDec_exc h)
  -- Special registers popped from memory.
  | ldclGbr =>
    cases hf
    exact popTo_exc (set := fun v t => t.setGbr v) h
  | ldslMach =>
    cases hf
    exact popTo_exc (set := fun v t => t.setMach v) h
  | ldslMacl =>
    cases hf
    exact popTo_exc (set := fun v t => t.setMacl v) h
  | ldslPr =>
    cases hf
    exact popTo_exc (set := fun v t => t.setPr v) h
  | ldclSr | ldclVbr | ldclSsr | ldclSpc | ldclSgr | ldclDbr | ldclBank =>
    cases hf
    exact (privileged_of_md (hm rfl)).trans (popTo_exc h)
  | ldslFpul | ldslFpscr =>
    cases hf
    exact (fpuGated_of_on (hfpu rfl).1 (hfpu rfl).2).trans (popTo_exc h)
  | casL =>
    cases hf
    exact compareAndSwap_exc h
  | _ => cases hf

/-! ### Floating-point moves -/

section
variable {r : FReg} {d : DWord} {fin : State → Res}

/-- Both accesses of a pair are checked before either is performed. -/
theorem FpAccessRaises.pair_exc {α : Type} {perform : Place → State → Place → State → Access α}
    (h : FpAccessRaises k va e s u) :
    ((resolve k s.md .long va s).bind fun p t =>
      (resolve k t.md .long (va + 4) t).bind (perform p t)) = .exc e u := by
  rcases h with hfirst | ⟨-, place, v, hfirst, hsecond⟩
  · exact Access.bind_eq_exc.mpr (.inl hfirst)
  · rw [← (resolve_onlyDrawn hfirst).keepsCore.md] at hsecond
    exact Access.bind_eq_exc.mpr (.inr ⟨place, v, hfirst, Access.bind_eq_exc.mpr (.inl hsecond)⟩)

theorem pairRead_exc (h : FpAccessRaises .read va e s u) : pairRead va s = .exc e u := h.pair_exc

theorem pairWrite_exc (h : FpAccessRaises .write va e s u) : pairWrite va d s = .exc e u := h.pair_exc

theorem FpAccessRaises.of_cell (hsz : s.sz = false) (h : FpAccessRaises k va e s u) :
    resolve k s.md .long va s = .exc e u :=
  h.resolve_right fun ⟨hpair, _⟩ => Bool.false_ne_true (hsz.symm.trans hpair)

theorem fpLoad_exc (hr : s.sz = true → PairExists s r) (h : FpAccessRaises .read va e s u) :
    fpLoad r va fin s = raise e u := by
  rcases Bool.eq_false_or_eq_true s.sz with hsz | hsz
  · rw [fpLoad, if_pos hsz, pairPresent_of_exists (hr hsz), pairRead_exc h, Access.andThen]
  · rw [fpLoad, if_neg (Bool.eq_false_iff.mp hsz), memRead_eq_exc.mpr (h.of_cell hsz), Access.andThen]

theorem fpStore_exc (hr : s.sz = true → PairExists s r) (h : FpAccessRaises .write va e s u) :
    fpStore r va fin s = raise e u := by
  rcases Bool.eq_false_or_eq_true s.sz with hsz | hsz
  · rw [fpStore, if_pos hsz, pairPresent_of_exists (hr hsz), pairWrite_exc h, Access.andThen]
  · rw [fpStore, if_neg (Bool.eq_false_iff.mp hsz), memWrite_eq_exc.mpr (h.of_cell hsz), Access.andThen]

end

theorem exec_fpAccess_exc {f : FpAccessForm}
    (hf : fpLoadForm s i = some f ∧ k = .read ∨ fpStoreForm s i = some f ∧ k = .write) (hs : Startable i s)
    (hd : i.operandsDefined = true) (hready : FpuReady s) (hr : s.sz = true → PairExists s f.reg)
    (h : FpAccessRaises k f.addr e s u) : exec i s = raise e u := by
  rcases hf with ⟨hf, rfl⟩ | ⟨hf, rfl⟩
  · exact (exec_fpLoad hf hs hd hready).trans (fpLoad_exc hr h)
  · exact (exec_fpStore hf hs hd hready).trans (fpStore_exc hr h)

/-! ### The fetch of a step -/

/-- Where nothing else is due, a step runs the next instruction. -/
theorem step_of_undisturbed (h : Undisturbed s) : step s = runInstruction s.consumed := by
  obtain ⟨hawake, hreset, haccepted⟩ := h
  have haccepted : acceptedCode s.consumed s.event = none := haccepted
  have hawake : s.consumed.asleep = false := hawake
  unfold step runBoundary
  split
  · next c hc => exact absurd hc (hreset c)
  · rw [haccepted]
    simp only [runOrSleep, hawake, Bool.false_eq_true, if_false]

theorem step_fetch_exc (h : Undisturbed s) (hfetch : resolve .read s.fetchMd .half s.pc s.consumed = .exc e u) :
    step s = raise e u := by
  have hfetch : fetch s.consumed.fetchMd s.consumed.pc s.consumed = .exc e u := fetch_eq_exc.mpr hfetch
  rw [step_of_undisturbed h, runInstruction, hfetch, Access.andThen]

end

/-- Settles O16: the access raises before the instruction has changed anything, whichever shape it has. -/
theorem accessExceptionsRaised : Obligations.AccessExceptionsRaised := by
  intro s u e
  refine ⟨fun i f hf hs hm hd hfpu h => ?_, fun i f k hf hs hd hready hr h => ?_, fun hund h => ?_⟩
  · exact ⟨(resolve_exc_onlyDrawn h).eq_with_free, exec_access_exc hf hs hm hd hfpu h⟩
  · have hraises : FpAccessRaises k f.addr e s u := h
    exact ⟨hraises.onlyDrawn.eq_with_free, exec_fpAccess_exc hf hs hd hready hr hraises⟩
  · exact ⟨(resolve_exc_onlyDrawn h).eq_with_free, step_fetch_exc hund h⟩

end Sys2Proof.Machine
end

section
/-! PROOF. The steps of an access one by one: the checks of its address, the address it goes to without translation, the
walk of the page table, and what stands at the physical address (20_memory.md R70 to R74, R83, R85, R101 to R107). -/

namespace Sys2Proof.Machine

open Sys2Proof.Safety

section
variable {s u : State} {k : AccessKind} {md : Bool} {w : Width} {va pa pde pte : Word}

/-! ### Alignment and privilege -/

theorem aligned_eq_true : aligned w va = true ↔ va.toNat % w.bytes = 0 := beq_iff_eq

/-- User mode may use the addresses below 8000_0000 (20_memory.md R72). -/
theorem mode_msb_eq_false : (!md && va.msb) = false ↔ md = true ∨ va.toNat < 2 ^ 31 := by
  rw [BitVec.msb_eq_decide]
  cases md <;> simp

theorem translate_of_not_addressable (h32 : s.cfg.addr32 = false) (h : ¬ Addressable md w va s) :
    translate k md w va s = .exc (k.addressError va) s := by
  by_cases ha : aligned w va = true
  · have hmode : (!md && va.msb) = true := by
      rw [← Bool.not_eq_false, mode_msb_eq_false]
      exact fun hallowed => h ⟨h32, aligned_eq_true.mp ha, hallowed⟩
    simp [translate, h32, ha, hmode]
  · simp [translate, h32, ha]

/-! ### Without translation -/

/-- The access goes to the low 29 bits of its address (20_memory.md R74). -/
theorem translate_untranslated (h : Addressable md w va s) (hnot : ¬ Translated s va) :
    translate k md w va s = .ok (untranslated va) s := by
  obtain ⟨h32, haligned, hallowed⟩ := h
  simp [translate, h32, aligned_eq_true.mpr haligned, mode_msb_eq_false.mpr hallowed, translation_off hnot]

/-- Where no memory-mapped register stands, the access reaches what stands there in either mode. -/
theorem resolve_of_translate (h : translate k md w va s = .ok pa u) (hreg : mmrAt pa.toNat = none) :
    resolve k md w va s = placeOf w va pa u := by
  rw [resolve, locate_eq_ok.mpr ⟨h, .inr hreg⟩, Access.bind]

theorem placeOf_device (hreg : mmrAt pa.toNat = none) (h : regionAt s.cfg.regions pa.toNat = some .device) :
    placeOf w va pa s = .ok (.device pa.toNat) s := by
  simp [placeOf, hreg, h]

theorem placeOf_memory (hreg : mmrAt pa.toNat = none) (h : regionAt s.cfg.regions pa.toNat = some .memory) :
    placeOf w va pa s = if reservedRange va then .refused (.reservedAddress va) else .ok (.memory pa.toNat) s := by
  simp [placeOf, hreg, h]

theorem reservedRange_eq_true : reservedRange va = true ↔ 0xE0000000 ≤ va.toNat := decide_eq_true_iff

/-! ### The walk -/

theorem translating_translatedRange (h : Translated s va) : (s.translating && translatedRange va) = true := by
  obtain ⟨hat, hrange⟩ := h
  refine Bool.and_eq_true_iff.mpr ⟨hat, ?_⟩
  simp only [translatedRange, Bool.or_eq_true, decide_eq_true_eq, beq_iff_eq]
  omega

/-- The bits above a page offset, in place. -/
theorem toNat_pageBase (e : Word) : (e &&& 0xFFFFF000#32).toNat = e.toNat / 4096 * 4096 := by
  have hshift : e &&& 0xFFFFF000#32 = (e >>> 12) <<< 12 := by
    refine BitVec.eq_of_getLsbD_eq fun i hi => ?_
    rw [BitVec.getLsbD_and, BitVec.getLsbD_shiftLeft, BitVec.getLsbD_ushiftRight]
    interval_cases i <;> simp
  have := e.isLt
  rw [hshift, BitVec.toNat_shiftLeft, BitVec.toNat_ushiftRight, Nat.shiftRight_eq_div_pow, Nat.shiftLeft_eq]
  omega

theorem toNat_directoryEntryAddress (s : State) (va : Word) :
    (directoryEntryAddress s va).toNat = directoryEntry s va := by
  have haddr : directoryEntryAddress s va = (s.ttb &&& 0xFFFFF000#32) + 4#32 * (va >>> 22) := rfl
  have := s.ttb.isLt
  have := va.isLt
  rw [haddr, directoryEntry, BitVec.toNat_add, BitVec.toNat_mul, toNat_pageBase, BitVec.toNat_ushiftRight,
    Nat.shiftRight_eq_div_pow, BitVec.toNat_ofNat]
  omega

theorem toNat_tableEntryAddress (pde va : Word) : (tableEntryAddress pde va).toNat = pageEntry pde va := by
  have haddr : tableEntryAddress pde va = (pde &&& 0xFFFFF000#32) + 4#32 * ((va >>> 12) &&& 0x3FF#32) := rfl
  have hindex : ((va >>> 12) &&& 0x3FF#32).toNat = va.toNat / 4096 % 1024 := by
    rw [BitVec.toNat_and, BitVec.toNat_ushiftRight, Nat.shiftRight_eq_div_pow]
    exact Nat.and_two_pow_sub_one_eq_mod _ 10
  have := pde.isLt
  rw [haddr, pageEntry, BitVec.toNat_add, BitVec.toNat_mul, toNat_pageBase, hindex, BitVec.toNat_ofNat]
  omega

/-- A page and an offset below its size do not overlap. -/
theorem toNat_pageAddress (pte va : Word) :
    (pageAddress pte va).toNat = pte.toNat / 4096 * 4096 + va.toNat % 4096 := by
  have haddr : pageAddress pte va = (pte &&& 0xFFFFF000#32) ||| (va &&& 0xFFF#32) := rfl
  have hoffset : (va &&& 0xFFF#32).toNat = va.toNat % 4096 := by
    rw [BitVec.toNat_and]
    exact Nat.and_two_pow_sub_one_eq_mod _ 12
  rw [haddr, BitVec.toNat_or, toNat_pageBase, hoffset, Nat.mul_comm]
  exact (Nat.two_pow_add_eq_or_of_lt (i := 12) (Nat.mod_lt _ (by omega)) _).symm

theorem tableEntry_miss (hin : InTableMemory s pa.toNat) (h : (valueAt s pa.toNat .long).getLsbD 8 = false) :
    tableEntry s pa = .miss := by
  rw [valueAt] at h
  rw [InTableMemory] at hin
  simp only [tableEntry, hin, h, Bool.false_eq_true, if_false]

theorem tableEntry_found (hin : InTableMemory s pa.toNat) (h : ValidEntry (valueAt s pa.toNat .long)) :
    tableEntry s pa = .found (valueAt s pa.toNat .long) := by
  obtain ⟨hvalid, hsize, hsize'⟩ := h
  rw [valueAt] at hvalid hsize hsize'
  rw [InTableMemory] at hin
  simp only [tableEntry, hin, hvalid, hsize, hsize', valueAt, Bool.not_false, Bool.and_self, if_true]

theorem walk_of_directory_miss (h : tableEntry s (directoryEntryAddress s va) = .miss) : walk s va = .miss := by
  rw [walk, h]

theorem walk_of_directory_found (h : tableEntry s (directoryEntryAddress s va) = .found pde) :
    walk s va = tableEntry s (tableEntryAddress pde va) := by
  rw [walk, h]

/-- The permission faults of a valid entry are those the rule names (20_memory.md R107). -/
theorem pageFault_eq_permissionFault : pageFault k md va pte = permissionFault k md va pte := by
  cases k <;> simp [pageFault, permissionFault]

/-! ### With translation -/

theorem translate_walk_miss (h : Addressable md w va s) (ht : Translated s va) (hwalk : walk s va = .miss) :
    translate k md w va s = .exc (k.miss va) s.drawn := by
  obtain ⟨h32, haligned, hallowed⟩ := h
  simp [translate, h32, aligned_eq_true.mpr haligned, mode_msb_eq_false.mpr hallowed, translating_translatedRange ht,
    hwalk]

/-- A page found gives its permission fault or its physical address, unless the TLB misses all the same
(20_memory.md R106, R107). -/
theorem translate_walk_found (h : Addressable md w va s) (ht : Translated s va) (hwalk : walk s va = .found pte) :
    translate k md w va s = .exc (k.miss va) s.drawn ∨
      (∃ e, permissionFault k md va pte = some e ∧ translate k md w va s = .exc e s.drawn) ∨
      (permissionFault k md va pte = none ∧ translate k md w va s = .ok (pageAddress pte va) s.drawn) := by
  obtain ⟨h32, haligned, hallowed⟩ := h
  cases hmiss : Config.freeTlbMiss s.free with
  | true =>
    left
    simp [translate, h32, aligned_eq_true.mpr haligned, mode_msb_eq_false.mpr hallowed, translating_translatedRange ht,
      hmiss]
  | false =>
    right
    cases hfault : permissionFault k md va pte <;>
      simp [translate, h32, aligned_eq_true.mpr haligned, mode_msb_eq_false.mpr hallowed,
        translating_translatedRange ht, hmiss, hwalk, pageFault_eq_permissionFault, hfault]

end

/-- Settles O17: the two checks of the address, and what stands at its low 29 bits. -/
theorem addressChecks : Obligations.AddressChecks := by
  intro k md w va s h32
  refine ⟨fun h => ?_, fun h hnot => ⟨⟨_, translate_untranslated h hnot, toNat_untranslated va⟩, ?_⟩⟩
  · rw [translate_of_not_addressable h32 h]
    cases k <;> rfl
  · intro a ha hreg
    rw [← toNat_untranslated] at ha
    subst ha
    rw [resolve_of_translate (translate_untranslated h hnot) hreg]
    refine ⟨placeOf_device hreg, fun hmem hlow => ?_, fun hmem hhigh => ?_⟩
    · rw [placeOf_memory hreg hmem, if_neg (by rw [reservedRange_eq_true]; omega)]
    · rw [placeOf_memory hreg hmem, if_pos (reservedRange_eq_true.mpr hhigh)]

/-- Settles O18: each level of the walk is an entry in memory, and the walk decides the access unless the TLB misses. -/
theorem pageTableTranslation : Obligations.PageTableTranslation := by
  intro k md w va pde pte s h ht hdir hpde
  subst hpde
  rw [← toNat_directoryEntryAddress] at hdir ⊢
  refine ⟨k.miss va, by cases k <;> simp [AccessKind.miss], fun hinvalid => ?_, fun hvalid htable hpte => ?_⟩
  · exact translate_walk_miss h ht (walk_of_directory_miss (tableEntry_miss hdir hinvalid))
  · subst hpte
    have hwalk := walk_of_directory_found (tableEntry_found hdir hvalid)
    rw [← toNat_tableEntryAddress] at htable ⊢
    refine ⟨fun hinvalid => translate_walk_miss h ht (hwalk.trans (tableEntry_miss htable hinvalid)), fun hpage => ?_⟩
    rcases translate_walk_found (k := k) h ht (hwalk.trans (tableEntry_found htable hpage)) with
      hmiss | hfault | ⟨hnone, hok⟩
    · exact .inl hmiss
    · exact .inr (.inl hfault)
    · exact .inr (.inr ⟨hnone, _, hok, toNat_pageAddress ..⟩)

end Sys2Proof.Machine
end

section
/-! PROOF. A store to memory and a fetch after it, byte by byte: the byte order of what is stored (20_memory.md R80, R81),
and the bytes a store replaces, which a fetch may see until an ICBI (R113). -/

namespace Sys2Proof.Machine

open Sys2Proof.Safety

/-- Which byte of a value, counted from its lowest, an access of width `w` has `k` bytes above its address
(20_memory.md R80). -/
def byteRank (e : Endian) (w : Width) (k : Nat) : Nat :=
  match e with
  | .little => k
  | .big => w.bytes - 1 - k

section
variable {s : State} {e : Endian} {w : Width} {v : Word} {m st : List Host.Cell} {bs : List Byte} {a pa k : Nat}
  {b x : Byte}

/-! ### Byte order -/

theorem toNat_extractByte (v : Word) (i : Nat) : (v.extractLsb' (8 * i) 8).toNat = v.toNat / 256 ^ i % 256 := by
  rw [BitVec.extractLsb'_toNat, Nat.shiftRight_eq_div_pow, pow_mul]
  rfl

theorem getElem_bytesOf (h : k < (bytesOf e w v).length) :
    (bytesOf e w v)[k] = v.extractLsb' (8 * byteRank e w k) 8 := by
  have hk : k < w.bytes := length_bytesOf e w v ▸ h
  cases w <;> simp only [Width.bytes] at hk <;> interval_cases k <;> cases e <;> rfl

/-- Each byte of the access holds the part of the value that the byte order gives it. -/
theorem memGet_memoryWrite_inside (h : k < w.bytes) :
    memGet (s.memoryWrite pa w v).mem (pa + k) = v.extractLsb' (8 * byteRank s.cfg.endian w k) 8 := by
  rw [← length_bytesOf s.cfg.endian w v] at h
  rw [State.memoryWrite_mem, memGet_memSetList, dif_pos ⟨by omega, by omega⟩]
  simp only [Nat.add_sub_cancel_left, getElem_bytesOf]

/-! ### Stale bytes -/

theorem mem_staleAt : b ∈ staleAt a st ↔ (a, b) ∈ st := by
  induction st with
  | nil => exact iff_of_false List.not_mem_nil List.not_mem_nil
  | cons c st ih =>
    obtain ⟨ca, cb⟩ := c
    simp only [staleAt, List.mem_cons, Prod.mk.injEq]
    split
    · next h => simp only [List.mem_cons, ih, h, true_and]
    · next h => simp only [ih, Ne.symm h, false_and, false_or]

/-- One byte stored leaves the old one possible where it differs, and no other new one. -/
theorem mem_noteStore :
    (a, b) ∈ (if memGet m pa = x ∨ (pa, memGet m pa) ∈ st then st else (pa, memGet m pa) :: st) ↔
      (a, b) ∈ st ∨ (a = pa ∧ b = memGet m a ∧ x ≠ memGet m a) := by
  split
  · next h =>
    refine ⟨.inl, fun hb => hb.elim id ?_⟩
    rintro ⟨rfl, rfl, hx⟩
    exact h.resolve_left fun heq => hx heq.symm
  · next h =>
    rw [not_or] at h
    rw [List.mem_cons, Prod.mk.injEq, or_comm]
    refine or_congr_right ⟨?_, ?_⟩
    · rintro ⟨rfl, rfl⟩
      exact ⟨rfl, rfl, fun heq => h.1 heq.symm⟩
    · rintro ⟨rfl, rfl, -⟩
      exact ⟨rfl, rfl⟩

/-- So do several bytes stored upward from an address, each where it stands. -/
theorem mem_noteStores :
    (a, b) ∈ noteStores m st pa bs ↔
      (a, b) ∈ st ∨ (b = memGet m a ∧ ∃ h : pa ≤ a ∧ a < pa + bs.length, bs[a - pa] ≠ memGet m a) := by
  induction bs generalizing st pa with
  | nil =>
    have hnone : ¬ (pa ≤ a ∧ a < pa + ([] : List Byte).length) := by simp
    simp only [noteStores, hnone, IsEmpty.exists_iff, and_false, or_false]
  | cons x bs ih =>
    rw [noteStores, ih, mem_noteStore, or_assoc]
    refine or_congr_right ?_
    rcases Nat.lt_trichotomy a pa with hlt | rfl | hgt
    · have hne : a ≠ pa := by omega
      simp [hne, show ¬ pa + 1 ≤ a by omega, show ¬ pa ≤ a by omega]
    · simp
    · obtain ⟨j, rfl⟩ : ∃ j, a = pa + 1 + j := ⟨a - (pa + 1), by omega⟩
      have hindex : pa + 1 + j - pa = j + 1 := by omega
      simp [hindex, show pa + 1 + j ≠ pa by omega, show pa ≤ pa + 1 + j by omega,
        show pa + 1 + j < pa + (bs.length + 1) ↔ j < bs.length by omega]

/-- The bytes a store changes are those whose new value differs. -/
theorem memGet_memSetList_ne :
    memGet (memSetList m pa bs) a ≠ memGet m a ↔
      ∃ h : pa ≤ a ∧ a < pa + bs.length, bs[a - pa] ≠ memGet m a := by
  rw [memGet_memSetList]
  split
  · next h => simp only [h, true_and, exists_prop_of_true]
  · next h => simp only [h, ne_eq, not_true, IsEmpty.exists_iff]

/-- A fetch sees the byte in memory or a stale one. -/
theorem fetchByte_mem : fetchByte s a = memGet s.mem a ∨ fetchByte s a ∈ staleAt a s.stale := by
  unfold fetchByte
  split
  · exact .inl rfl
  · have hindex : Config.freeFetch s.free % ((staleAt a s.stale).length + 1) <
        (memGet s.mem a :: staleAt a s.stale).length := Nat.mod_lt _ (Nat.succ_pos _)
    rw [List.getD_eq_getElem _ _ hindex]
    exact List.mem_cons.mp (List.getElem_mem hindex)

end

/-- Settles O19: what a list of bytes stored upward leaves at each address, for the bytes of the value. -/
theorem storedValueReadsBack : Obligations.StoredValueReadsBack := by
  intro s pa w v
  refine ⟨loadBytes_memSetList .., fun a ha => memGet_memoryWrite_outside ha, fun k hk => ?_, wf_memoryWrite pa w v⟩
  rw [memGet_memoryWrite_inside hk, toNat_extractByte]
  cases s.cfg.endian <;> rfl

/-- Settles O21: a stale byte is one that a store found in memory and changed, until an ICBI drops its word. -/
theorem fetchCoherence : Obligations.FetchCoherence := by
  intro s a
  refine ⟨fetchByte_mem, fun pa w v b => ?_, fun pa => ?_⟩
  · rw [mem_staleAt, mem_staleAt, State.memoryWrite_stale, State.memoryWrite_mem, memGet_memSetList_ne, mem_noteStores]
  · have hword : (a = pa.toNat / 2 * 2 ∨ a = pa.toNat / 2 * 2 + 1) ↔ a / 2 = pa.toNat / 2 := by omega
    rw [State.invalidate_stale, staleAt_dropStale]
    simp only [hword]

end Sys2Proof.Machine
end

section
/-! PROOF. From an instruction to its words and bytes and back: the nibbles of an encoding, put together again, are the
operands they were taken from (30_encoding.md R120 to R123, R133; 20_memory.md R82). -/

namespace Sys2Proof.Machine

open Sys2Proof.Laws

section
variable {a b c d p q : Nib} {w0 w1 : Half} {i j : Instr} {e : Endian} {rest : List Byte}

/-! ### Nibbles, registers and immediates -/

theorem nibReg_regNib (r : Fin 16) : nibReg (regNib r) = r := rfl

/-- A field of a value and the nibble below it are one field. -/
theorem extract_append_nibOf {n : Nat} (x : BitVec n) (m k : Nat) :
    x.extractLsb' (4 * (k + 1)) m ++ nibOf x k = x.extractLsb' (4 * k) (m + 4) :=
  BitVec.extractLsb'_append_extractLsb'_eq_extractLsb' rfl

/-! An immediate is its nibbles, the most significant first (30_encoding.md R133). -/

theorem append_nibOf8 (x : BitVec 8) : nibOf x 1 ++ nibOf x 0 = x :=
  (extract_append_nibOf x 4 0).trans BitVec.extractLsb'_eq_self

theorem append_nibOf12 (x : BitVec 12) : nibOf x 2 ++ nibOf x 1 ++ nibOf x 0 = x := by
  have hhigh : nibOf x 2 ++ nibOf x 1 = x.extractLsb' 4 8 := extract_append_nibOf x 4 1
  rw [hhigh]
  exact (extract_append_nibOf x 8 0).trans BitVec.extractLsb'_eq_self

theorem append_nibOf16 (x : BitVec 16) : nibOf x 3 ++ nibOf x 2 ++ nibOf x 1 ++ nibOf x 0 = x := by
  have hhigh : nibOf x 3 ++ nibOf x 2 = x.extractLsb' 8 8 := extract_append_nibOf x 4 2
  have hupper : x.extractLsb' 8 8 ++ nibOf x 1 = x.extractLsb' 4 12 := extract_append_nibOf x 8 1
  rw [hhigh, hupper]
  exact (extract_append_nibOf x 12 0).trans BitVec.extractLsb'_eq_self

theorem append_nibOf24 (x : BitVec 24) :
    nibOf x 5 ++ nibOf x 4 ++ word16 (nibOf x 3) (nibOf x 2) (nibOf x 1) (nibOf x 0) = x := by
  have hlow : word16 (nibOf x 3) (nibOf x 2) (nibOf x 1) (nibOf x 0) = x.extractLsb' 0 16 := by
    have hhigh : nibOf x 3 ++ nibOf x 2 = x.extractLsb' 8 8 := extract_append_nibOf x 4 2
    have hupper : x.extractLsb' 8 8 ++ nibOf x 1 = x.extractLsb' 4 12 := extract_append_nibOf x 8 1
    rw [word16, hhigh, hupper]
    exact extract_append_nibOf x 12 0
  have hhigh : nibOf x 5 ++ nibOf x 4 = x.extractLsb' 16 8 := extract_append_nibOf x 4 4
  rw [hlow, hhigh]
  exact BitVec.extractLsb'_append_extractLsb'

/-! ### Words and bytes -/

/-- A first word that no second one belongs to means what its nibbles do (30_encoding.md R121). -/
theorem decode_word16 (h : (a == 8 && (b == 0xA || b == 0xE)) = false) :
    decode (word16 a b c d) w1 = decode16 a b c d := by
  rw [← isWide_word16 a b c d] at h
  simp only [decode, h, nibOf_word16_3, nibOf_word16_2, nibOf_word16_1, nibOf_word16_0]

theorem decode_wide : decode (word16 8 0xE p q) (word16 a b c d) = decode32 p q a b c d := by
  have h : isWide (word16 8 0xE p q) = true := isWide_word16 ..
  simp only [decode, h, nibOf_word16_3, nibOf_word16_2, nibOf_word16_1, nibOf_word16_0]
  rfl

theorem decode_movi24 : decode (word16 8 0xA p q) w1 = .instr (.movi24 (p ++ q ++ w1)) := by
  have h : isWide (word16 8 0xA p q) = true := isWide_word16 ..
  simp only [decode, h, imm24, nibOf_word16_2, nibOf_word16_1, nibOf_word16_0]
  rfl

theorem bytesOfHalf_append (e : Endian) (w : Half) (rest : List Byte) :
    ∃ x y, bytesOfHalf e w ++ rest = x :: y :: rest ∧ halfOfBytes e x y = w := by
  cases e with
  | little => exact ⟨_, _, rfl, BitVec.extractLsb'_append_extractLsb'⟩
  | big => exact ⟨_, _, rfl, BitVec.extractLsb'_append_extractLsb'⟩

/-- The bytes of one word that no second one follows. -/
theorem decodeBytes_word (h : isWide w0 = false) :
    decodeBytes e (bytesOfHalf e w0 ++ rest) = some (decode w0 0, rest) := by
  obtain ⟨x, y, hbytes, rfl⟩ := bytesOfHalf_append e w0 rest
  simp only [hbytes, decodeBytes, h]

/-- The bytes of two words. -/
theorem decodeBytes_words (h : isWide w0 = true) :
    decodeBytes e (bytesOfHalf e w0 ++ bytesOfHalf e w1 ++ rest) = some (decode w0 w1, rest) := by
  obtain ⟨z, t, hsecond, rfl⟩ := bytesOfHalf_append e w1 rest
  obtain ⟨x, y, hfirst, rfl⟩ := bytesOfHalf_append e w0 (z :: t :: rest)
  rw [List.append_assoc, hsecond, hfirst, decodeBytes, h]

/-- The bytes of the instruction decode to it, in either byte order and whatever follows them. -/
def ReadBack (i : Instr) : Prop :=
  ∀ (e : Endian) (rest : List Byte), decodeBytes e (encodeBytes e i ++ rest) = some (.instr i, rest)

/-- One word, whose nibbles the table of 16-bit words takes for the instruction. -/
theorem readBack_narrow (henc : encode i = (word16 a b c d, none))
    (hnarrow : (a == 8 && (b == 0xA || b == 0xE)) = false) (hdec : decode16 a b c d = .instr j) (hj : j = i) :
    ReadBack i := fun e rest => by
  rw [encodeBytes, henc]
  refine (decodeBytes_word ((isWide_word16 ..).trans hnarrow)).trans ?_
  rw [decode_word16 hnarrow, hdec, hj]

/-- A first word 8Epq and a second one, whose nibbles the table of 32-bit forms takes for the instruction. -/
theorem readBack_wide (henc : encode i = (word16 8 0xE p q, some (word16 a b c d)))
    (hdec : decode32 p q a b c d = .instr j) (hj : j = i) : ReadBack i := fun e rest => by
  rw [encodeBytes, henc]
  refine (decodeBytes_words (isWide_word16 ..)).trans ?_
  rw [decode_wide, hdec, hj]

theorem readBack_movi24 (imm : BitVec 24) : ReadBack (.movi24 imm) := fun e rest => by
  refine (decodeBytes_words (isWide_word16 ..)).trans ?_
  rw [decode_movi24, append_nibOf24]

/-- NOP has every immediate but 15 (30_encoding.md R162). -/
theorem decode0_nop (h : b ≠ 15) : decode0 b 0 9 = .instr (.nop b) := by
  have hb : b.toNat ≠ 15 := fun hb => h (BitVec.eq_of_toNat_eq hb)
  change (match b.toNat with | 15 => Decoded.unassigned | _ => .instr (.nop b)) = _
  split
  · next hb' => exact absurd hb' hb
  · rfl

end

/-! ### Every instruction -/

/-- By the shape of the encoding: one word or two, with an immediate to put together or without. -/
theorem readBack_of_encodable (i : Instr) (h : i.encodable = true) : ReadBack i := by
  cases i with
  | nop imm => exact readBack_narrow rfl rfl (decode0_nop (bne_iff_ne.mp h)) rfl
  | stcBank b | stclBank b | ldclBank _ b | ldcBank _ b => fin_cases b <;> exact readBack_narrow rfl rfl rfl rfl
  | addImm8 | braN8 | cmpEqImm8 | bt8 | bf8 | btS8 | bfS8 | movWLoadPcDisp | movBStoreGbr8 | movWStoreGbr8
  | movLStoreGbr8 | trapa | movBLoadGbr8 | movWLoadGbr8 | movLLoadGbr8 | mova | tstImm8 | andImm8 | xorImm8 | orImm8
  | movLLoadPcDisp | movImm8 => exact readBack_narrow rfl rfl rfl (by simp only [append_nibOf8, nibReg_regNib])
  | bra | bsr => exact readBack_narrow rfl rfl rfl (by rw [append_nibOf12])
  | movi24 imm => exact readBack_movi24 imm
  | movBStoreIdx4 | movWStoreIdx4 | movLStoreIdx4 | movBLoadIdx4 | movWLoadIdx4 | movLLoadIdx4 | add3 | sub3 | mul3
  | and3 | or3 | xor3 | shld3 | shlr3 | shad3 | shar3 | cselt | fadd3 | fsub3 | fmul3 | fdiv3 | movuBLoadIdx
  | movuWLoadIdx | fmovLoadIdx | fmovStoreIdx | leaBIdx4 | leaWIdx4 | leaLIdx4 | leaQIdx4 =>
    exact readBack_wide rfl rfl rfl
  | movLStoreIdx8 | movBStoreDisp8 | movWStoreDisp8 | movLStoreDisp8 | fmovStoreDisp8 | fmovLoadDisp8 | and3Imm8
  | xor3Imm8 | or3Imm8 | mul3Imm8 | mul3NegImm8 | sub3Imm8 | and3NegImm8 | add3Imm8 | shad3Imm8 | shld3Imm8
  | movLLoadIdx8 | movBLoadDisp8 | movWLoadDisp8 | movLLoadDisp8 | leaBDisp8 | leaWDisp8 | leaLDisp8 | leaQDisp8
  | movuBLoadDisp8 | movuWLoadDisp8 => exact readBack_wide rfl rfl (by simp only [append_nibOf8, nibReg_regNib])
  | cmpEqImm12 | cmpHsImm12 | cmpGeImm12 | cmpHiImm12 | cmpGtImm12 | movBStoreGbr12 | movWStoreGbr12
  | movLStoreGbr12 | movBLoadGbr12 | movWLoadGbr12 | movLLoadGbr12 | tstImm12 | andImm12 | xorImm12 | orImm12 =>
    exact readBack_wide rfl rfl (by simp only [append_nibOf12, nibReg_regNib])
  | addImm16 | braN16 | bsrN16 | cmpEqImm16 | bt16 | ldhf16Imm | bf16 | ldif16 | btS16 | bfS16 | ldsh16 | movImm16 =>
    exact readBack_wide rfl rfl (by simp only [append_nibOf16, nibReg_regNib])
  -- One word, in which every operand is a nibble of its own.
  | _ => exact readBack_narrow rfl rfl rfl rfl

/-- Settles O1: the decoder's tables take the nibbles that the encoder writes for the instruction. -/
theorem encodeThenDecode : Obligations.EncodeThenDecode := fun i e rest h => readBack_of_encodable i h e rest

/-- Settles O3: the decoder, evaluated at each of the words. -/
theorem sampleWordsDecode : Obligations.SampleWordsDecode :=
  ⟨rfl, rfl, rfl, rfl, rfl, rfl, rfl, rfl, rfl, rfl, rfl, rfl⟩

end Sys2Proof.Machine
end

section
/-! PROOF. From words to the instruction and back: the tables of the decoder, row by row, against the encoder
(30_encoding.md R152 to R154, R162). -/

namespace Sys2Proof.Machine

open Sys2Proof.Laws

/-- The words `ws` mean nothing but what is encoded so: an instruction read from them is encodable, and they are its
encoding. -/
def EncodedAs (ws : Half × Option Half) : Decoded → Prop
  | .instr i => i.encodable = true ∧ encode i = ws
  | _ => True

/-- A property of every nibble, value by value. -/
theorem nib_cases {P : Nib → Prop} (n0 : P 0) (n1 : P 1) (n2 : P 2) (n3 : P 3) (n4 : P 4) (n5 : P 5) (n6 : P 6)
    (n7 : P 7) (n8 : P 8) (n9 : P 9) (nA : P 0xA) (nB : P 0xB) (nC : P 0xC) (nD : P 0xD) (nE : P 0xE) (nF : P 0xF)
    (x : Nib) : P x := by
  obtain ⟨⟨n, hn⟩⟩ := x
  interval_cases n <;> assumption

section
variable {a b c d p q : Nib} {w1 : Half} {i : Instr} {ws : Half × Option Half}

/-! ### Nibbles of what nibbles make -/

theorem nibOf_self (x : Nib) : nibOf x 0 = x := BitVec.extractLsb'_eq_self

theorem nibOf_append_zero {n : Nat} (x : BitVec n) (y : Nib) : nibOf (x ++ y) 0 = y :=
  BitVec.extractLsb'_append_eq_right

theorem nibOf_append_succ {n : Nat} (x : BitVec n) (y : Nib) (k : Nat) : nibOf (x ++ y) (k + 1) = nibOf x k := by
  rw [nibOf, BitVec.extractLsb'_append_eq_of_le (by omega), Nat.mul_add_one, Nat.add_sub_cancel]
  rfl

/-! ### The shapes of an encoding -/

/-- Every operand is a nibble of its own. -/
theorem encodedAs_nibbles (hi : i.encodable = true) (henc : encode i = ws) : EncodedAs ws (.instr i) := ⟨hi, henc⟩

theorem encodedAs_imm8 (hi : i.encodable = true)
    (henc : encode i = (word16 a b (nibOf (c ++ d) 1) (nibOf (c ++ d) 0), none)) :
    EncodedAs (word16 a b c d, none) (.instr i) :=
  ⟨hi, by simp only [henc, nibOf_append_succ, nibOf_append_zero, nibOf_self]⟩

theorem encodedAs_imm12 (hi : i.encodable = true)
    (henc : encode i = (word16 a (nibOf (b ++ c ++ d) 2) (nibOf (b ++ c ++ d) 1) (nibOf (b ++ c ++ d) 0), none)) :
    EncodedAs (word16 a b c d, none) (.instr i) :=
  ⟨hi, by simp only [henc, nibOf_append_succ, nibOf_append_zero, nibOf_self]⟩

theorem encodedAs_wide_imm8 (hi : i.encodable = true)
    (henc : encode i = (word16 8 0xE (nibOf (p ++ q) 1) (nibOf (p ++ q) 0), some w1)) :
    EncodedAs (word16 8 0xE p q, some w1) (.instr i) :=
  ⟨hi, by simp only [henc, nibOf_append_succ, nibOf_append_zero, nibOf_self]⟩

/-- The lowest nibble of the immediate is the second word's third. -/
theorem encodedAs_wide_imm12_third (hi : i.encodable = true)
    (henc : encode i = (word16 8 0xE (nibOf (p ++ q ++ c) 2) (nibOf (p ++ q ++ c) 1),
      some (word16 a b (nibOf (p ++ q ++ c) 0) d))) :
    EncodedAs (word16 8 0xE p q, some (word16 a b c d)) (.instr i) :=
  ⟨hi, by simp only [henc, nibOf_append_succ, nibOf_append_zero, nibOf_self]⟩

/-- The lowest nibble of the immediate is the second word's last. -/
theorem encodedAs_wide_imm12_last (hi : i.encodable = true)
    (henc : encode i = (word16 8 0xE (nibOf (p ++ q ++ d) 2) (nibOf (p ++ q ++ d) 1),
      some (word16 a b c (nibOf (p ++ q ++ d) 0)))) :
    EncodedAs (word16 8 0xE p q, some (word16 a b c d)) (.instr i) :=
  ⟨hi, by simp only [henc, nibOf_append_succ, nibOf_append_zero, nibOf_self]⟩

theorem encodedAs_wide_imm16 (hi : i.encodable = true)
    (henc : encode i = (word16 8 0xE (nibOf (p ++ q ++ c ++ d) 3) (nibOf (p ++ q ++ c ++ d) 2),
      some (word16 a b (nibOf (p ++ q ++ c ++ d) 1) (nibOf (p ++ q ++ c ++ d) 0)))) :
    EncodedAs (word16 8 0xE p q, some (word16 a b c d)) (.instr i) :=
  ⟨hi, by simp only [henc, nibOf_append_succ, nibOf_append_zero, nibOf_self]⟩

/-! ### The table of 16-bit words, row by row (30_encoding.md R152, R153) -/

theorem encodedAs_decode0 : EncodedAs (word16 0 b c d, none) (decode0 b c d) := by
  cases d using nib_cases with
  | n0 | n1 | nF => trivial
  | n2 =>
    cases c using nib_cases with
    | n5 | n6 | n7 => trivial
    | _ => exact encodedAs_nibbles rfl rfl
  | n3 =>
    cases c using nib_cases with
    | n0 | n2 | n8 | nC | nE => exact encodedAs_nibbles rfl rfl
    | _ => trivial
  | n8 =>
    cases c using nib_cases with
    | n0 | n1 | n2 | n3 | n4 | n5 | n6 =>
      cases b using nib_cases with
      | n0 => exact encodedAs_nibbles rfl rfl
      | _ => trivial
    | _ => trivial
  | n9 =>
    cases c using nib_cases with
    | n0 =>
      cases b using nib_cases with
      | nF => trivial
      | _ => exact encodedAs_nibbles rfl rfl
    | n1 =>
      cases b using nib_cases with
      | n0 => exact encodedAs_nibbles rfl rfl
      | _ => trivial
    | n2 | n3 => exact encodedAs_nibbles rfl rfl
    | _ => trivial
  | nA =>
    cases c using nib_cases with
    | n0 | n1 | n2 | n3 | n5 | n6 | nF => exact encodedAs_nibbles rfl rfl
    | _ => trivial
  | nB =>
    cases c using nib_cases with
    | n0 | n1 | n2 | n3 | n6 =>
      cases b using nib_cases with
      | n0 => exact encodedAs_nibbles rfl rfl
      | _ => trivial
    | n5 | nA => cases b using nib_cases <;> trivial
    | _ => trivial
  | _ => exact encodedAs_nibbles rfl rfl

theorem encodedAs_decode2 : EncodedAs (word16 2 b c d, none) (decode2 b c d) := by
  cases d using nib_cases <;> exact encodedAs_nibbles rfl rfl

theorem encodedAs_decode3 : EncodedAs (word16 3 b c d, none) (decode3 b c d) := by
  cases d using nib_cases with
  | n1 | n9 => trivial
  | _ => exact encodedAs_nibbles rfl rfl

theorem encodedAs_decode4 : EncodedAs (word16 4 b c d, none) (decode4 b c d) := by
  cases d using nib_cases with
  | n0 =>
    cases c using nib_cases with
    | n0 | n1 | n2 => exact encodedAs_nibbles rfl rfl
    | _ => trivial
  | n1 =>
    cases c using nib_cases with
    | n0 | n1 | n2 | n6 | n7 | nB | nC | nD | nE => exact encodedAs_nibbles rfl rfl
    | _ => trivial
  | n2 | n6 | nA =>
    cases c using nib_cases with
    | n0 | n1 | n2 | n3 | n5 | n6 | nF => exact encodedAs_nibbles rfl rfl
    | _ => trivial
  | n3 | n7 | nE =>
    cases c using nib_cases with
    | n5 | n6 | n7 => trivial
    | _ => exact encodedAs_nibbles rfl rfl
  | n4 =>
    cases c using nib_cases with
    | n0 | n2 | n3 => exact encodedAs_nibbles rfl rfl
    | _ => trivial
  | n5 =>
    cases c using nib_cases with
    | n0 | n1 | n2 | n3 | nB | nC | nD | nE | nF => exact encodedAs_nibbles rfl rfl
    | _ => trivial
  | n8 | n9 =>
    cases c using nib_cases with
    | n0 | n1 | n2 => exact encodedAs_nibbles rfl rfl
    | _ => trivial
  | nB =>
    cases c using nib_cases with
    | n0 | n2 | n4 | n8 | n9 | nA | nC | nD | nE => exact encodedAs_nibbles rfl rfl
    | _ => trivial
  | nC | nD => exact encodedAs_nibbles rfl rfl
  | nF => trivial

theorem encodedAs_decode6 : EncodedAs (word16 6 b c d, none) (decode6 b c d) := by
  cases d using nib_cases <;> exact encodedAs_nibbles rfl rfl

theorem encodedAs_decode8 : EncodedAs (word16 8 b c d, none) (decode8 b c d) := by
  cases b using nib_cases with
  | n0 | n1 | n4 | n5 => exact encodedAs_nibbles rfl rfl
  | n2 | n8 | n9 | nB | nD | nF => exact encodedAs_imm8 rfl rfl
  | _ => trivial

theorem encodedAs_decodeC : EncodedAs (word16 0xC b c d, none) (decodeC b c d) := by
  cases b using nib_cases with
  | nC | nD | nE | nF => trivial
  | _ => exact encodedAs_imm8 rfl rfl

theorem encodedAs_decodeF : EncodedAs (word16 0xF b c d, none) (decodeF b c d) := by
  cases d using nib_cases with
  | nD =>
    cases c using nib_cases with
    | n7 | nC | nE => trivial
    | nF =>
      cases b using nib_cases with
      | n3 | n7 | nB => exact encodedAs_nibbles rfl rfl
      | _ => trivial
    | _ => exact encodedAs_nibbles rfl rfl
  | nF => trivial
  | _ => exact encodedAs_nibbles rfl rfl

theorem encodedAs_decode16 : EncodedAs (word16 a b c d, none) (decode16 a b c d) := by
  cases a using nib_cases with
  | n0 => exact encodedAs_decode0
  | n2 => exact encodedAs_decode2
  | n3 => exact encodedAs_decode3
  | n4 => exact encodedAs_decode4
  | n6 => exact encodedAs_decode6
  | n8 => exact encodedAs_decode8
  | nC => exact encodedAs_decodeC
  | nF => exact encodedAs_decodeF
  | n1 | n5 => exact encodedAs_nibbles rfl rfl
  | n7 | n9 | nD | nE => exact encodedAs_imm8 rfl rfl
  | nA | nB => exact encodedAs_imm12 rfl rfl

/-! ### The table of second words, row by row (30_encoding.md R154) -/

theorem encodedAs_decodeX0 : EncodedAs (word16 8 0xE p q, some (word16 0 b c d)) (decodeX0 p q b c d) := by
  cases d using nib_cases with
  | n4 | n5 | n6 | nC | nD | nE => exact encodedAs_nibbles rfl rfl
  | _ => trivial

theorem encodedAs_decodeX2 : EncodedAs (word16 8 0xE p q, some (word16 2 b c d)) (decodeX2 p q b c d) := by
  cases d using nib_cases with
  | n0 | n1 | n2 | n4 | n6 | n9 | nA | nB | nE | nF => exact encodedAs_wide_imm8 rfl rfl
  | _ => trivial

theorem encodedAs_decodeX3 : EncodedAs (word16 8 0xE p q, some (word16 3 b c d)) (decodeX3 p q b c d) := by
  cases d using nib_cases with
  | n0 | n2 | n3 | n6 | n7 => exact encodedAs_wide_imm12_third rfl rfl
  | n8 | n9 | nC => exact encodedAs_wide_imm8 rfl rfl
  | _ => trivial

theorem encodedAs_decodeX4 : EncodedAs (word16 8 0xE p q, some (word16 4 b c d)) (decodeX4 p q b c d) := by
  cases d using nib_cases with
  | n3 =>
    cases c using nib_cases with
    | nB => trivial
    | _ => exact encodedAs_nibbles rfl rfl
  | nC | nD => exact encodedAs_wide_imm8 rfl rfl
  | nE =>
    cases c using nib_cases with
    | n0 | n1 | n2 | n3 => exact encodedAs_nibbles rfl rfl
    | _ => trivial
  | _ => trivial

theorem encodedAs_decodeX6 : EncodedAs (word16 8 0xE p q, some (word16 6 b c d)) (decodeX6 p q b c d) := by
  cases d using nib_cases with
  | n4 | n5 | n6 | n7 => exact encodedAs_nibbles rfl rfl
  | n3 | nE | nF => trivial
  | _ => exact encodedAs_wide_imm8 rfl rfl

theorem encodedAs_decodeX8 : EncodedAs (word16 8 0xE p q, some (word16 8 b c d)) (decodeX8 p q b c d) := by
  cases b using nib_cases with
  | n2 | n3 | n8 | n9 | nA | nB | nC | nD | nF => exact encodedAs_wide_imm16 rfl rfl
  | _ => trivial

theorem encodedAs_decodeXC : EncodedAs (word16 8 0xE p q, some (word16 0xC b c d)) (decodeXC p q b c d) := by
  cases b using nib_cases with
  | n0 | n1 | n2 | n4 | n5 | n6 | n8 | n9 | nA | nB => exact encodedAs_wide_imm12_last rfl rfl
  | _ => trivial

theorem encodedAs_decode32 : EncodedAs (word16 8 0xE p q, some (word16 a b c d)) (decode32 p q a b c d) := by
  cases a using nib_cases with
  | n0 => exact encodedAs_decodeX0
  | n2 => exact encodedAs_decodeX2
  | n3 => exact encodedAs_decodeX3
  | n4 => exact encodedAs_decodeX4
  | n6 => exact encodedAs_decodeX6
  | n8 => exact encodedAs_decodeX8
  | nC => exact encodedAs_decodeXC
  | n1 | n5 => exact encodedAs_wide_imm8 rfl rfl
  | n7 | n9 | nE => exact encodedAs_wide_imm16 rfl rfl
  | nA | nB | nD | nF => trivial

/-! ### Every word -/

theorem exists_word16 (w : Half) : ∃ a b c d, w = word16 a b c d := ⟨_, _, _, _, (append_nibOf16 w).symm⟩

theorem encodedAs_movi24 : EncodedAs (word16 8 0xA p q, some w1) (.instr (.movi24 (p ++ q ++ w1))) := by
  have hfirst (k : Nat) : nibOf (p ++ q ++ w1) (k + 4) = nibOf (p ++ q) k := by
    rw [nibOf, BitVec.extractLsb'_append_eq_of_le (by omega), Nat.mul_add, Nat.add_sub_cancel]
    rfl
  have hsecond {k : Nat} (hk : k < 4) : nibOf (p ++ q ++ w1) k = nibOf w1 k :=
    BitVec.extractLsb'_append_eq_of_add_le (by omega)
  have hw1 : word16 (nibOf w1 3) (nibOf w1 2) (nibOf w1 1) (nibOf w1 0) = w1 := append_nibOf16 w1
  have henc : encode (.movi24 (p ++ q ++ w1)) = (word16 8 0xA (nibOf (p ++ q ++ w1) 5) (nibOf (p ++ q ++ w1) 4),
      some (word16 (nibOf (p ++ q ++ w1) 3) (nibOf (p ++ q ++ w1) 2) (nibOf (p ++ q ++ w1) 1)
        (nibOf (p ++ q ++ w1) 0))) := rfl
  refine ⟨rfl, henc.trans ?_⟩
  rw [hfirst 1, hfirst 0, hsecond (by omega), hsecond (by omega), hsecond (by omega), hsecond (by omega), hw1,
    nibOf_append_succ, nibOf_append_zero, nibOf_self]

theorem encodedAs_decode (w0 w1 : Half) : EncodedAs (w0, if isWide w0 then some w1 else none) (decode w0 w1) := by
  obtain ⟨a, b, c, d, rfl⟩ := exists_word16 w0
  rw [isWide_word16]
  rcases Bool.eq_false_or_eq_true (a == 8 && (b == 0xA || b == 0xE)) with hwide | hnarrow
  · rw [if_pos hwide]
    simp only [Bool.and_eq_true, Bool.or_eq_true, beq_iff_eq] at hwide
    obtain ⟨rfl, rfl | rfl⟩ := hwide
    · rw [decode_movi24]
      exact encodedAs_movi24
    · obtain ⟨a, b, c, d, rfl⟩ := exists_word16 w1
      rw [decode_wide]
      exact encodedAs_decode32
  · rw [hnarrow, decode_word16 hnarrow]
    exact encodedAs_decode16

end

/-- Settles O2: wherever a table of the decoder names an instruction, the encoder writes that row's nibbles for it. -/
theorem decodeThenEncode : Obligations.DecodeThenEncode := fun w0 w1 i h => by
  have hdec := encodedAs_decode w0 w1
  rwa [h] at hdec

end Sys2Proof.Machine
end

section
/-! PROOF. A step at fresh words in memory runs what they decode to; the words that decode to no instruction
(20_memory.md R82, R87, R113; 30_encoding.md R160, R161, R163). -/

namespace Sys2Proof.Machine

open Sys2Proof.Safety

section
variable {s t u : State} {pa pb : Nat} {md wide : Bool} {va : Word} {w0 w1 : Half}

theorem OnlyDrawn.fresh (h : OnlyDrawn s u) (hfresh : Fresh s pa) : Fresh u pa := by
  obtain ⟨n, rfl⟩ := h
  exact hfresh

theorem OnlyDrawn.wordAt_eq (h : OnlyDrawn s u) : wordAt u pa = wordAt s pa := by
  obtain ⟨n, rfl⟩ := h
  rfl

theorem OnlyDrawn.drawn_drawn (h : OnlyDrawn s u) : OnlyDrawn s u.drawn.drawn := h.trans ⟨u.free + 2, rfl⟩

/-- The state an instruction is executed in differs from the one at the boundary by the request consumed and the values
drawn. -/
theorem OnlyDrawn.atExecution (h : OnlyDrawn s.consumed t) : ∃ n, t = atExecution s n := h

theorem fetchByte_of_not_stale {x : Nat} (h : staleAt x s.stale = []) : fetchByte s x = memGet s.mem x := by
  rw [fetchByte, h]

theorem half2_memGet (s : State) (x : Nat) :
    half2 s.cfg.endian (memGet s.mem x) (memGet s.mem (x + 1)) = wordAt s x := by
  unfold half2 wordAt
  cases s.cfg.endian <;> rfl

/-- A fetch of a fresh word finds what memory holds, and draws a value for each byte. -/
theorem fetch_of_fresh (h : resolve .read md .half va s = .ok (.memory pa) u) (hfresh : Fresh s pa) :
    fetch md va s = .ok (wordAt s pa) u.drawn.drawn := by
  have hu := resolve_onlyDrawn h
  obtain ⟨hlow, hhigh⟩ := hu.fresh hfresh
  have hlow : fetchByte u pa = memGet u.mem pa := fetchByte_of_not_stale hlow
  have hhigh : fetchByte u.drawn (pa + 1) = memGet u.mem (pa + 1) := fetchByte_of_not_stale hhigh
  simp only [fetch, h, Access.bind, hlow, hhigh, half2_memGet, hu.wordAt_eq]

/-- The second word matters only to a 32-bit form (30_encoding.md R121). -/
theorem decode_of_narrow (h : isWide w0 = false) : decode w0 w1 = decode w0 0 := by
  simp only [decode, h]

theorem runInstruction_of_narrow (h : fetch s.fetchMd s.pc s = .ok w0 t) (hnarrow : isWide w0 = false) :
    runInstruction s = runDecoded (decode w0 w1) t := by
  rw [runInstruction, h, Access.andThen, hnarrow, if_neg Bool.false_ne_true, decode_of_narrow (w1 := w1) hnarrow]

theorem runInstruction_of_wide (h : fetch s.fetchMd s.pc s = .ok w0 t) (hwide : isWide w0 = true)
    (hslot : t.pending = none) (hnext : fetch s.fetchMd (t.pc + 2) t = .ok w1 u) :
    runInstruction s = runDecoded (decode w0 w1) u := by
  rw [runInstruction, h, Access.andThen, hwide, if_pos rfl, runWide, notInSlot_of_none hslot, hnext, Access.andThen]

/-- A step at fresh words runs what they decode to, once they are fetched. -/
theorem step_runs_decoded (hs : Undisturbed s) (hpath : FetchPath s wide pa pb) (hwide : isWide (wordAt s pa) = wide)
    (hslot : wide = true → s.pending = none) :
    ∃ n, step s = runDecoded (decode (wordAt s pa) (wordAt s pb)) (atExecution s n) := by
  obtain ⟨u, hfirst, hfresh, hsecond⟩ := hpath
  have hfetch : fetch s.fetchMd s.pc s.consumed = .ok (wordAt s pa) u.drawn.drawn := fetch_of_fresh hfirst hfresh
  have hu : OnlyDrawn s.consumed u.drawn.drawn := (resolve_onlyDrawn hfirst).drawn_drawn
  rw [step_of_undisturbed hs]
  cases wide with
  | false =>
    obtain ⟨n, hn⟩ := hu.atExecution
    exact ⟨n, hn ▸ runInstruction_of_narrow hfetch hwide⟩
  | true =>
    obtain ⟨v, hnext, hfresh'⟩ := hsecond rfl
    obtain ⟨n, hn⟩ := (hu.trans (resolve_onlyDrawn hnext).drawn_drawn).atExecution
    have hpending : u.drawn.drawn.pending = none := hu.keepsCore.pending.trans (hslot rfl)
    have hpc : u.drawn.drawn.pc = s.pc := hu.keepsCore.pc
    have hfetch' : fetch s.fetchMd (u.drawn.drawn.pc + 2) u.drawn.drawn = .ok (wordAt s pb) v.drawn.drawn := by
      rw [hpc, fetch_of_fresh hnext (hu.fresh hfresh'), hu.wordAt_eq]
      rfl
    exact ⟨n, hn ▸ runInstruction_of_wide hfetch hwide hpending hfetch'⟩

theorem reservedInstruction_of_not_blocked (h : s.bl = false) :
    reservedInstruction s = .next (enterException (if s.pending = none then .resInst else .illSlot) s) := by
  rw [reservedInstruction, State.inSlot]
  cases s.pending with
  | none => exact raise_of_not_blocked h
  | some _ => exact raise_of_not_blocked h

end

/-- Settles O5: the step runs what is decoded, and each kind of rejected encoding has its own answer. -/
theorem otherEncodingsTrapOrStop : Obligations.OtherEncodingsTrapOrStop := by
  intro s wide pa pb hs hpath hwide hslot
  obtain ⟨n, hstep⟩ := step_runs_decoded hs hpath hwide hslot
  refine ⟨fun hdec hbl => ⟨n, ?_⟩, fun hdec => ?_, fun form hdec => ?_⟩
  · rw [hstep, hdec]
    exact reservedInstruction_of_not_blocked hbl
  · rw [hstep, hdec]
    rfl
  · rw [hstep, hdec]
    rfl

end Sys2Proof.Machine
end

section
/-! PROOF. What an instruction refuses under a name of its own: index registers, and floating-point modes, roundings and
banks to which the rules give no meaning (30_encoding.md R164; 40_data_transfer.md R203, R271; 45_fpu.md R501, R503 to
R505). -/

namespace Sys2Proof.Machine

open Sys2Proof.Safety

section
variable {s : State} {k : Res} {ro : Reg} {r ra rb rn : FReg}

/-! ### The checks that refuse -/

theorem indexed_of_undefined (h : indexDefined ro = false) : indexed ro k = .refused .reservedIndexRegister :=
  if_pos (by simpa [indexDefined] using h)

theorem leaIndexed_of_undefined (h : leaIndexDefined ro = false) : leaIndexed ro k = .refused .undefinedLeaIndex :=
  if_pos (by simpa [leaIndexDefined, imp_iff_not_or] using h)

theorem roundingDefined_of_not_set (h : ¬ RoundingSet s) : roundingDefined s k = .refused .undefinedRounding :=
  if_pos (Nat.le_of_not_lt h)

theorem roundingDefined_of_set (h : RoundingSet s) : roundingDefined s k = k := roundingDefined_of_lt h

/-- On a Basic-profile core no instruction uses the cells of the second bank. -/
theorem fpuBanked_of_absent (hbasic : s.cfg.fpuProfile = .basic) (hfd : s.fd = false) (hfr : s.frBit = true) :
    fpuBanked s k = .refused .absentFpuBank := by
  rw [fpuBanked, fpuGated_of_on hfd (by simp [hbasic]), if_pos ⟨hbasic, hfr⟩]

theorem pairPresent_of_odd (hbasic : s.cfg.fpuProfile = .basic) (h : pairOdd r = true) :
    pairPresent s r k = .refused .absentFpuBank := if_pos ⟨hbasic, h⟩

/-- What is refused for a pair still is after another pair's check. -/
theorem pairPresent_of_refused (h : k = .refused .absentFpuBank) : pairPresent s r k = .refused .absentFpuBank := by
  rw [pairPresent, h, ite_self]

/-! ### Pairs that do not exist -/

/-- One of these pairs is odd, where the instruction works on pairs. -/
def NamesOddPair (onPairs : Bool) (rs : List FReg) : Prop := ∃ r ∈ if onPairs then rs else [], pairOdd r = true

theorem namesOddPair_iff {onPairs : Bool} {rs : List FReg} :
    NamesOddPair onPairs rs ↔ onPairs = true ∧ ∃ r ∈ rs, pairOdd r = true := by
  cases onPairs <;> simp [NamesOddPair]

theorem pairPresent_of_names_odd {rs : List FReg} (hbasic : s.cfg.fpuProfile = .basic)
    (hodd : ∃ q ∈ r :: rs, pairOdd q = true) (hk : (∃ q ∈ rs, pairOdd q = true) → k = .refused .absentFpuBank) :
    pairPresent s r k = .refused .absentFpuBank := by
  obtain ⟨q, hq, hq_odd⟩ := hodd
  rcases List.mem_cons.mp hq with rfl | hmem
  · exact pairPresent_of_odd hbasic hq_odd
  · exact pairPresent_of_refused (hk ⟨q, hmem, hq_odd⟩)

theorem pairPresent_one (hbasic : s.cfg.fpuProfile = .basic) (hodd : ∃ q ∈ [ra], pairOdd q = true) :
    pairPresent s ra k = .refused .absentFpuBank :=
  pairPresent_of_names_odd hbasic hodd fun ⟨_, hnil, _⟩ => nomatch hnil

theorem pairPresent_two (hbasic : s.cfg.fpuProfile = .basic) (hodd : ∃ q ∈ [ra, rb], pairOdd q = true) :
    pairPresent s ra (pairPresent s rb k) = .refused .absentFpuBank :=
  pairPresent_of_names_odd hbasic hodd (pairPresent_one hbasic)

theorem pairPresent_three (hbasic : s.cfg.fpuProfile = .basic) (hodd : ∃ q ∈ [ra, rb, rn], pairOdd q = true) :
    pairPresent s ra (pairPresent s rb (pairPresent s rn k)) = .refused .absentFpuBank :=
  pairPresent_of_names_odd hbasic hodd (pairPresent_two hbasic)

section
variable {fin : State → Res} {ea : Word}

theorem arith_absent {op : FpOp} (hbasic : s.cfg.fpuProfile = .basic) (hround : RoundingSet s)
    (hodd : NamesOddPair s.prec [ra, rb, rn]) : arith op ra rb rn fin s = .refused .absentFpuBank := by
  obtain ⟨hprec, hodd⟩ := namesOddPair_iff.mp hodd
  rw [arith, roundingDefined_of_set hround, if_pos hprec, pairPresent_three hbasic hodd]

theorem compare_absent {rel : FpFormat → Bool → Nat → Nat → Bool} (hbasic : s.cfg.fpuProfile = .basic)
    (hround : RoundingSet s) (hodd : NamesOddPair s.prec [ra, rb]) :
    compare rel rb ra s = .refused .absentFpuBank := by
  obtain ⟨hprec, hodd⟩ := namesOddPair_iff.mp hodd
  have hodd : ∃ q ∈ [rb, ra], pairOdd q = true := by simpa [or_comm] using hodd
  rw [compare, roundingDefined_of_set hround, if_pos hprec, pairPresent_two hbasic hodd]

theorem moveFp_absent (hbasic : s.cfg.fpuProfile = .basic) (hodd : NamesOddPair s.sz [ra, rb]) :
    moveFp ra rb s = .refused .absentFpuBank := by
  obtain ⟨hsz, hodd⟩ := namesOddPair_iff.mp hodd
  rw [moveFp, if_pos hsz, pairPresent_two hbasic hodd]

theorem fpLoad_absent (hbasic : s.cfg.fpuProfile = .basic) (hodd : NamesOddPair s.sz [r]) :
    fpLoad r ea fin s = .refused .absentFpuBank := by
  obtain ⟨hsz, hodd⟩ := namesOddPair_iff.mp hodd
  rw [fpLoad, if_pos hsz, pairPresent_one hbasic hodd]

theorem fpStore_absent (hbasic : s.cfg.fpuProfile = .basic) (hodd : NamesOddPair s.sz [r]) :
    fpStore r ea fin s = .refused .absentFpuBank := by
  obtain ⟨hsz, hodd⟩ := namesOddPair_iff.mp hodd
  rw [fpStore, if_pos hsz, pairPresent_one hbasic hodd]

/-- The shape of the arithmetic with one operand: on a pair with FPSCR.PR = 1. -/
theorem onePair_absent {single : Res} (hbasic : s.cfg.fpuProfile = .basic) (hodd : NamesOddPair s.prec [r]) :
    (if s.prec then pairPresent s r k else single) = .refused .absentFpuBank := by
  obtain ⟨hprec, hodd⟩ := namesOddPair_iff.mp hodd
  rw [if_pos hprec, pairPresent_one hbasic hodd]

theorem doubleToSingle_absent (hbasic : s.cfg.fpuProfile = .basic) (hround : RoundingSet s)
    (hodd : NamesOddPair s.prec [r]) : doubleToSingle r s = .refused .absentFpuBank := by
  obtain ⟨hprec, hodd⟩ := namesOddPair_iff.mp hodd
  rw [doubleToSingle, if_pos hprec, roundingDefined_of_set hround, pairPresent_one hbasic hodd]

end

end

/-! ### Which instruction makes which check -/

section
variable {i : Instr} {s : State}

theorem exec_undefined_index (hs : Startable i s) (hd : i.operandsDefined = false)
    (hfpu : fpuInstr i = false) :
    exec i s = .refused .reservedIndexRegister ∨ exec i s = .refused .undefinedLeaIndex := by
  cases i with
  | movBStoreIdx4 | movWStoreIdx4 | movLStoreIdx4 | movBLoadIdx4 | movWLoadIdx4 | movLLoadIdx4 | movLStoreIdx8
  | movLLoadIdx8 | movuBLoadIdx | movuWLoadIdx =>
    exact .inl ((notInSlot_of_none (hs rfl)).trans (indexed_of_undefined hd))
  | leaBIdx4 | leaWIdx4 | leaLIdx4 | leaQIdx4 =>
    exact .inr ((notInSlot_of_none (hs rfl)).trans (leaIndexed_of_undefined hd))
  | fmovLoadIdx | fmovStoreIdx => cases hfpu
  | _ => cases hd

theorem exec_undefined_fp_index (hs : Startable i s) (hd : i.operandsDefined = false)
    (hfpu : fpuInstr i = true) (hr : FpuReady s) : exec i s = .refused .reservedIndexRegister := by
  cases i with
  | fmovLoadIdx | fmovStoreIdx =>
    exact (notInSlot_of_none (hs rfl)).trans ((fpuBanked_of_fpuReady hr).trans (indexed_of_undefined hd))
  | movBStoreIdx4 | movWStoreIdx4 | movLStoreIdx4 | movBLoadIdx4 | movWLoadIdx4 | movLLoadIdx4 | movLStoreIdx8
  | movLLoadIdx8 | movuBLoadIdx | movuWLoadIdx | leaBIdx4 | leaWIdx4 | leaLIdx4 | leaQIdx4 => cases hfpu
  | _ => cases hd

theorem exec_fmac_double {rm rn : FReg} (hr : FpuReady s) (hprec : s.prec = true) :
    exec (.fmac rm rn) s = .refused .undefinedFpuMode :=
  (fpuBanked_of_fpuReady hr).trans (if_pos hprec)

theorem exec_convert_single {r : FReg} (hi : i = .fcnvsd r ∨ i = .fcnvds r) (hr : FpuReady s)
    (hprec : s.prec = false) :
    exec i s = .refused .undefinedFpuMode := by
  have hsingle : ¬ s.prec = true := Bool.eq_false_iff.mp hprec
  rcases hi with rfl | rfl
  · exact (fpuBanked_of_fpuReady hr).trans (if_neg hsingle)
  · exact (fpuBanked_of_fpuReady hr).trans (if_neg hsingle)

theorem exec_undefined_rounding (hs : Startable i s) (hi : fpArithmetic i = true) (hr : FpuReady s)
    (hround : ¬ RoundingSet s) (hfmac : ∀ rm rn, i = .fmac rm rn → s.prec = false)
    (hfcnvds : ∀ r, i = .fcnvds r → s.prec = true) : exec i s = .refused .undefinedRounding := by
  cases i with
  | fadd | fsub | fmul | fdiv | fcmpEq | fcmpGt | fneg | fabs | fsqrt | float | fldi0 | fldi1 =>
    exact (fpuBanked_of_fpuReady hr).trans (roundingDefined_of_not_set hround)
  | fadd3 | fsub3 | fmul3 | fdiv3 =>
    exact (notInSlot_of_none (hs rfl)).trans ((fpuBanked_of_fpuReady hr).trans (roundingDefined_of_not_set hround))
  | fmac rm rn =>
    exact (fpuBanked_of_fpuReady hr).trans
      ((if_neg (Bool.eq_false_iff.mp (hfmac rm rn rfl))).trans (roundingDefined_of_not_set hround))
  | fcnvds r =>
    exact (fpuBanked_of_fpuReady hr).trans ((if_pos (hfcnvds r rfl)).trans (roundingDefined_of_not_set hround))
  | _ => cases hi

theorem exec_absent_cells (hs : Startable i s) (hbasic : s.cfg.fpuProfile = .basic) (hfd : s.fd = false)
    (hi : usesFpCells i = true) (hfr : s.frBit = true) : exec i s = .refused .absentFpuBank := by
  cases i with
  | fadd3 | fsub3 | fmul3 | fdiv3 | fmovStorePcR0 | fmovLoadPcR0 | fmovStoreDisp8 | fmovLoadDisp8 | fmovLoadIdx
  | fmovStoreIdx => exact (notInSlot_of_none (hs rfl)).trans (fpuBanked_of_absent hbasic hfd hfr)
  | fadd | fsub | fmul | fdiv | fcmpEq | fcmpGt | fmac | fmov | fsts | flds | fneg | fabs | fsqrt | fldi0 | fldi1
  | float | ftrc | fcnvsd | fcnvds | fmovLoadR0Idx | fmovStoreR0Idx | fmovLoadInd | fmovLoadPostInc | fmovStoreInd
  | fmovStorePreDec => exact fpuBanked_of_absent hbasic hfd hfr
  | _ => cases hi

theorem exec_absent_pair (hs : Startable i s) (hbasic : s.cfg.fpuProfile = .basic) (hr : FpuReady s)
    (hround : RoundingSet s) (hd : i.operandsDefined = true) (hodd : ∃ r ∈ fpPairs s i, pairOdd r = true) :
    exec i s = .refused .absentFpuBank := by
  cases i with
  | fadd | fsub | fmul | fdiv => exact (fpuBanked_of_fpuReady hr).trans (arith_absent hbasic hround hodd)
  | fadd3 | fsub3 | fmul3 | fdiv3 =>
    exact (notInSlot_of_none (hs rfl)).trans ((fpuBanked_of_fpuReady hr).trans (arith_absent hbasic hround hodd))
  | fcmpEq | fcmpGt => exact (fpuBanked_of_fpuReady hr).trans (compare_absent hbasic hround hodd)
  | fmov => exact (fpuBanked_of_fpuReady hr).trans (moveFp_absent hbasic hodd)
  | fneg | fabs | fsqrt | fldi0 | fldi1 | float =>
    exact (fpuBanked_of_fpuReady hr).trans ((roundingDefined_of_set hround).trans (onePair_absent hbasic hodd))
  | ftrc | fcnvsd => exact (fpuBanked_of_fpuReady hr).trans (onePair_absent hbasic hodd)
  | fcnvds => exact (fpuBanked_of_fpuReady hr).trans (doubleToSingle_absent hbasic hround hodd)
  | fmovLoadR0Idx | fmovLoadInd | fmovLoadPostInc | fmovLoadPcR0 | fmovLoadDisp8 | fmovLoadIdx =>
    exact (exec_fpLoad rfl hs hd hr).trans (fpLoad_absent hbasic hodd)
  | fmovStoreR0Idx | fmovStoreInd | fmovStorePreDec | fmovStorePcR0 | fmovStoreDisp8 | fmovStoreIdx =>
    exact (exec_fpStore rfl hs hd hr).trans (fpStore_absent hbasic hodd)
  | _ =>
    obtain ⟨r, hnone, -⟩ := hodd
    cases hnone

theorem exec_absent_bank (hbasic : s.cfg.fpuProfile = .basic) (hfd : s.fd = false) (h : ¬ BankSelectable s i) :
    exec i s = .refused .absentFpuBank := by
  have hgate {k : Res} : fpuGated s k = k := fpuGated_of_on hfd (by simp [hbasic])
  cases i with
  | frchg => exact hgate.trans (if_pos hbasic)
  | psetmd imm => exact hgate.trans (if_pos ⟨hbasic, by simpa [BankSelectable, hbasic] using h⟩)
  | _ => simp [BankSelectable] at h

end

/-- Settles O15: each operand or mode without a meaning is met by a check that every instruction it concerns makes. -/
theorem undefinedOperandsStop : Obligations.UndefinedOperandsStop := by
  intro i s hs
  refine ⟨exec_undefined_index hs, exec_undefined_fp_index hs, ?_, ?_, exec_undefined_rounding hs, ?_⟩
  · rintro rm rn rfl hr hprec
    exact exec_fmac_double hr hprec
  · exact fun r hi hr hprec => exec_convert_single hi hr hprec
  · refine fun hbasic hfd => ⟨exec_absent_cells hs hbasic hfd, fun hfr hround hd hodd => ?_,
      exec_absent_bank hbasic hfd⟩
    exact exec_absent_pair hs hbasic ⟨⟨hfd, by simp [hbasic]⟩, fun _ => hfr⟩ hround hd hodd

end Sys2Proof.Machine
end

section
/-! PROOF. Moves, extensions and addresses: the bit-vector meaning of each is the integer of its rule modulo 2^32
(00_scope.md R10, R11; 40_data_transfer.md R205 to R213, R252 to R258, R270 to R272). -/

namespace Sys2Proof.Machine

open Sys2Proof.Safety

section
variable {s : State} {a b c v : Word} {k : Nat} {x y : Int} {i : Instr} {rn ro : Reg} {r : Res}

/-! ### Integers as 32-bit values -/

theorem word_add : word (x + y) = word x + word y := BitVec.ofInt_add x y

theorem word_mul : word (x * y) = word x * word y := BitVec.ofInt_mul x y

theorem word_natCast : word (k : Int) = BitVec.ofNat 32 k := BitVec.ofInt_natCast 32 k

theorem word_toNat : word (v.toNat : Int) = v := by
  rw [word_natCast, BitVec.ofNat_toNat, BitVec.setWidth_eq]

theorem word_toInt_eq_sext {n : Nat} (d : BitVec n) : word d.toInt = sext d := rfl

theorem word_toNat_eq_zext {n : Nat} (d : BitVec n) : word (d.toNat : Int) = zext d := by
  rw [word_natCast, BitVec.ofNat_toNat]
  rfl

/-- A bit vector whose value is the natural number `k`. -/
theorem eq_word_natCast (h : v.toNat = k) : v = word (k : Int) := by
  rw [← h, word_toNat]

/-! ### Bytes and halves exchanged -/

theorem toNat_append_eq_add {m n : Nat} (c : BitVec m) (d : BitVec n) : (c ++ d).toNat = c.toNat * 2 ^ n + d.toNat := by
  rw [BitVec.toNat_append, ← Nat.shiftLeft_add_eq_or_of_lt d.isLt, Nat.shiftLeft_eq]

theorem toNat_highHalf (v : Word) : (v.extractLsb' 16 16).toNat = v.toNat / 65536 := by
  have := v.isLt
  rw [BitVec.extractLsb'_toNat, Nat.shiftRight_eq_div_pow]
  omega

theorem toNat_lowHalf (v : Word) : (v.extractLsb' 0 16).toNat = v.toNat % 65536 := BitVec.extractLsb'_toNat ..

theorem swapBytes_eq_word :
    swapBytes v = word (v.toNat / 65536 * 65536 + v.toNat % 256 * 256 + v.toNat / 256 % 256 : Nat) := by
  have hlow : (v.extractLsb' 0 8).toNat = v.toNat % 256 := BitVec.extractLsb'_toNat ..
  have hsecond : (v.extractLsb' 8 8).toNat = v.toNat / 256 % 256 := by
    rw [BitVec.extractLsb'_toNat, Nat.shiftRight_eq_div_pow]
  refine eq_word_natCast ?_
  rw [swapBytes, toNat_append_eq_add, toNat_append_eq_add, toNat_highHalf, hlow, hsecond]
  omega

/-- The low half of one value above the high half of another (40_data_transfer.md R258). -/
theorem middleWord_eq_word : middleWord a b = word (a.toNat % 65536 * 65536 + b.toNat / 65536 : Nat) := by
  refine eq_word_natCast ?_
  rw [middleWord, toNat_append_eq_add, toNat_lowHalf, toNat_highHalf]
  norm_num

theorem swapWords_eq_word : swapWords v = word (v.toNat % 65536 * 65536 + v.toNat / 65536 : Nat) := middleWord_eq_word

/-! ### Extensions -/

theorem sext_low_eq_word (w : Nat) (hw : w ≤ 32) : sext (v.extractLsb' 0 w) = word (signedLow v w) := by
  rw [signedLow, BitVec.setWidth_eq_extractLsb' hw, word_toInt_eq_sext]

theorem zext_low_eq_word (w : Nat) : zext (v.extractLsb' 0 w) = word (unsignedLow v w) := by
  rw [← word_toNat_eq_zext, BitVec.extractLsb'_toNat]
  rfl

theorem bit_not (c : Bool) : bit (!c) = if c then 0 else 1 := by cases c <;> rfl

/-- LDSH16: the register moves up by a half (40_data_transfer.md R212). -/
theorem shiftIn_eq_word (imm : BitVec 16) : (v <<< 16) + sext imm = word (v.toNat * 65536 + imm.toInt) := by
  have hshift : v <<< 16 = v * word 65536 := BitVec.shiftLeft_eq_mul_twoPow v 16
  rw [word_add, word_mul, word_toNat, word_toInt_eq_sext, hshift]

/-! ### Addresses -/

theorem lea_disp_eq_word {n : Nat} {d : BitVec n} (hc : c = word x) :
    v + sext d * c = word (v.toNat + d.toInt * x) := by
  rw [hc, word_add, word_mul, word_toNat, word_toInt_eq_sext]

theorem lea_index_eq_word {n : Nat} {d : BitVec n} (hc : c = word k) :
    a + (b + zext d) * c = word (a.toNat + (b.toNat + d.toNat) * k : Nat) := by
  push_cast
  rw [hc, word_add, word_mul, word_add, word_toNat, word_toNat, word_toNat_eq_zext]

/-- The two low bits cleared (40_data_transfer.md R204). -/
theorem toNat_clearLowBits (v : Word) : (v &&& 0xFFFFFFFC#32).toNat = v.toNat / 4 * 4 := by
  have hshift : v &&& 0xFFFFFFFC#32 = (v >>> 2) <<< 2 := by
    refine BitVec.eq_of_getLsbD_eq fun j hj => ?_
    rw [BitVec.getLsbD_and, BitVec.getLsbD_shiftLeft, BitVec.getLsbD_ushiftRight]
    interval_cases j <;> simp
  have := v.isLt
  rw [hshift, BitVec.toNat_shiftLeft, BitVec.toNat_ushiftRight, Nat.shiftRight_eq_div_pow, Nat.shiftLeft_eq]
  omega

theorem mova_eq_word (disp : BitVec 8) :
    eaDisp (pcBaseAligned s) (zext disp) .long = word ((s.pc + 4).toNat / 4 * 4 + disp.toNat * 4 : Nat) := by
  have hbase : pcBaseAligned s = word ((s.pc + 4).toNat / 4 * 4 : Nat) := eq_word_natCast (toNat_clearLowBits _)
  rw [Nat.cast_add, word_add, ← hbase, Nat.cast_mul, word_mul, word_toNat_eq_zext]
  rfl

theorem eaPcR0_eq_word : eaPcR0 s = word (s.pc.toNat + 4 + (s.reg 0).toNat : Nat) := by
  push_cast
  rw [word_add, word_add, word_toNat, word_toNat]
  rfl

/-! ### The instructions -/

theorem toReg16_eq (h : a = v) : toReg16 rn a s = .next ((s.setReg rn v).advance 2) := h ▸ rfl

theorem toReg32_eq (hslot : s.pending = none) (h : a = v) : toReg32 rn a s = .next ((s.setReg rn v).advance 4) :=
  (notInSlot_of_none hslot).trans (h ▸ rfl)

theorem leaIndexed_of_defined (h : leaIndexDefined ro = true) : leaIndexed ro r = r :=
  if_neg (by simpa [leaIndexDefined] using h)

/-- LEA with an index register, which checks for a delay slot and then its index. -/
theorem leaIndexed_eq (hslot : s.pending = none) (hd : leaIndexDefined ro = true) (h : a = v) :
    notInSlot s (leaIndexed ro (toReg32 rn a s)) = .next ((s.setReg rn v).advance 4) :=
  (notInSlot_of_none hslot).trans ((leaIndexed_of_defined hd).trans (toReg32_eq hslot h))

/-- Each move writes the value of its rule and passes on. -/
theorem exec_move (hm : moveResult s i = some (rn, v)) (hs : Startable i s) (hd : i.operandsDefined = true) :
    exec i s = .next ((s.setReg rn v).advance i.size) := by
  cases i with
  | mov | movt | movImm8 =>
    cases hm
    exact toReg16_eq rfl
  | movrt =>
    cases hm
    exact toReg16_eq (bit_not _)
  | extsB | extsW =>
    cases hm
    exact toReg16_eq (sext_low_eq_word _ (by omega))
  | extuB | extuW =>
    cases hm
    exact toReg16_eq (zext_low_eq_word _)
  | swapB =>
    cases hm
    exact toReg16_eq swapBytes_eq_word
  | swapW =>
    cases hm
    exact toReg16_eq swapWords_eq_word
  | xtrct =>
    cases hm
    exact toReg16_eq middleWord_eq_word
  | mova =>
    cases hm
    exact (notInSlot_of_none (hs rfl)).trans (toReg16_eq (mova_eq_word _))
  | leaBPcR0 =>
    cases hm
    exact (notInSlot_of_none (hs rfl)).trans (toReg16_eq eaPcR0_eq_word)
  | movImm16 | movi24 | cselt =>
    cases hm
    exact toReg32_eq (hs rfl) rfl
  | ldsh16 =>
    cases hm
    exact toReg32_eq (hs rfl) (shiftIn_eq_word _)
  | leaBDisp8 =>
    cases hm
    exact toReg32_eq (hs rfl) ((lea_disp_eq_word (x := 1) rfl).trans (by rw [mul_one]))
  | leaWDisp8 | leaLDisp8 | leaQDisp8 =>
    cases hm
    exact toReg32_eq (hs rfl) (lea_disp_eq_word rfl)
  | leaBIdx4 =>
    cases hm
    exact leaIndexed_eq (hs rfl) hd ((lea_index_eq_word (k := 1) rfl).trans (by rw [mul_one]))
  | leaWIdx4 | leaLIdx4 | leaQIdx4 =>
    cases hm
    exact leaIndexed_eq (hs rfl) hd (lea_index_eq_word rfl)
  | _ => cases hm

end

/-- Settles O27: each move writes the value of its rule, and writing a register changes that register alone. -/
theorem moveResults : Obligations.MoveResults := by
  intro i s rn v hm hs hd
  exact ⟨_, exec_move hm hs hd, by rw [State.reg_advance, State.reg_setReg_same], completed_advance rfl rfl,
    frame_then_advance frame_setReg⟩

end Sys2Proof.Machine
end

section
/-! PROOF. The loads and stores whose access reaches memory (40_data_transfer.md R201 to R204; 20_memory.md R81). -/

namespace Sys2Proof.Machine

open Sys2Proof.Safety

section
variable {s t m : State} {w : Width} {v : Word} {pa : Nat} {regs : List Reg} {bits : List Nat} {xs : List Special}
  {cells : List (Bool × FReg)}

theorem OnlyDrawn.frame (h : OnlyDrawn s t) : Frame s t [] [] [] [] [] := by
  obtain ⟨n, rfl⟩ := h
  exact { frame_refl with special := fun x _ => by cases x <;> rfl }

/-- A read of memory finds the bytes there and changes nothing. -/
theorem finds_memory (h : Finds w (.memory pa) v s m) : v = valueAt s pa w ∧ Frame s m [] [] [] [] [] := by
  obtain ⟨hstate, hvalue, hlog⟩ := h
  have honly : OnlyDrawn s m := ⟨m.free, by rwa [hlog] at hstate⟩
  exact ⟨hvalue, honly.frame⟩

/-- A store to memory leaves the low bits of the value there and changes nothing else. -/
theorem takes_memory (h : Takes w (.memory pa) v s m) :
    valueAt m pa w = w.trunc v ∧ Frame s m [] [] [] [] (accessBytes w pa) := by
  obtain ⟨hframe, hvalue, hlog⟩ := h
  rw [← hlog] at hframe
  exact ⟨hvalue, hframe⟩

theorem placeAccepts_memory {cfg : Config} : PlaceAccepts cfg (.memory pa) v := fun _ h => nomatch h

theorem loadBytes_congr {e : Endian} {x y : List Host.Cell} (h : ∀ a, memGet x a = memGet y a) :
    loadBytes e x pa w = loadBytes e y pa w := by
  cases w <;> simp only [loadBytes, h]

/-- What changes no byte of memory changes no value in it. -/
theorem valueAt_of_frame (h : Frame s t regs bits xs cells []) : valueAt t pa w = valueAt s pa w := by
  rw [valueAt, h.cfg]
  exact loadBytes_congr fun a => h.mem a List.not_mem_nil

/-- What an instruction changes after its read of memory is all it changes. -/
theorem frame_after_find (h : Finds w (.memory pa) v s m) (h' : Frame m t regs bits xs cells []) :
    Frame s t regs bits xs cells [] := frame_trans (finds_memory h).2 h'

/-- What an instruction changes after its store to memory, but for memory itself, leaves the value stored, and the bytes
of the access are all that changes besides. -/
theorem store_then_frame (h : Takes w (.memory pa) v s m) (h' : Frame m t regs bits xs cells []) :
    valueAt t pa w = w.trunc v ∧ Frame s t regs bits xs cells (accessBytes w pa) := by
  obtain ⟨hvalue, hframe⟩ := takes_memory h
  have hboth := frame_trans hframe h'
  rw [List.append_nil] at hboth
  exact ⟨(valueAt_of_frame h').trans hvalue, hboth⟩

end

/-- Settles O37: a load that answers what its place holds, where the place is memory. -/
theorem loadResults : Obligations.LoadResults := by
  rintro i s f pa hf hs hd ⟨u, hr⟩
  obtain ⟨v, m, t, hfinds, hexec, hreg, hdone, hframe⟩ := load_result hf hs hd hr
  rw [(finds_memory hfinds).1] at hreg
  exact ⟨t, hexec, hreg, hdone, frame_after_find hfinds hframe⟩

/-- Settles O38: the same of a load that steps its address register first, so that the value loaded stays. -/
theorem stepLoadResults : Obligations.StepLoadResults := by
  rintro i s f rn pa hf ⟨u, hr⟩
  obtain ⟨v, m, t, hfinds, hexec, hreg, hpointer, hdone, hframe⟩ := stepLoad_result hf hr
  rw [(finds_memory hfinds).1] at hreg
  exact ⟨t, hexec, hreg, hpointer, hdone, frame_after_find hfinds hframe⟩

/-- Settles O39: a store to the place reached, where the place is memory. -/
theorem storeResults : Obligations.StoreResults := by
  rintro i s f pa hf hs hd ⟨u, hr⟩
  obtain ⟨m, t, htakes, hexec, hdone, hframe⟩ := store_result hf hs hd hr placeAccepts_memory
  obtain ⟨hvalue, hframe⟩ := store_then_frame htakes hframe
  exact ⟨t, hexec, hvalue, hdone, hframe⟩

/-- Settles O41: the same of a store that steps its address register. -/
theorem stepStoreResults : Obligations.StepStoreResults := by
  rintro i s f v pa hf hm hfpu ⟨u, hr⟩
  obtain ⟨m, t, htakes, hexec, hpointer, hdone, hframe⟩ := stepStore_result hf hm hfpu hr placeAccepts_memory
  obtain ⟨hvalue, hframe⟩ := store_then_frame htakes hframe
  exact ⟨t, hexec, hvalue, hpointer, hdone, hframe⟩

/-- Settles O42: the long found decides whether Rn's old value is stored; where it is, the access keeps to the long. -/
theorem compareAndSwapResults : Obligations.CompareAndSwapResults := by
  rintro rm rn s pa ⟨u, hr⟩
  obtain ⟨v, l, hfinds, hunequal, hequal⟩ := compareAndSwap_result (rm := rm) (rn := rn) hr
  obtain ⟨rfl, hfound⟩ := finds_memory hfinds
  by_cases heq : valueAt s pa .long = s.reg rm
  · obtain ⟨m, t, htakes, hexec, hreg, ht, hdone, hframe⟩ := hequal heq placeAccepts_memory
    obtain ⟨hvalue, hframe⟩ := store_then_frame htakes hframe
    exact ⟨t, hexec, hreg, by rw [ht, decide_eq_true heq], hdone, fun _ => ⟨hvalue, frame_trans hfound hframe⟩,
      fun hne => absurd heq hne⟩
  · obtain ⟨t, hexec, hreg, ht, hdone, hframe⟩ := hunequal heq
    exact ⟨t, hexec, hreg, by rw [ht, decide_eq_false heq], hdone, fun h => absurd h heq,
      fun _ => frame_trans hfound hframe⟩

end Sys2Proof.Machine
end

section
/-! PROOF. PREF and ICBI: each translates its address as a byte load does and may raise what that load would, or
completes (40_data_transfer.md R264; 44_system.md R460; 20_memory.md R113; log 17). -/

namespace Sys2Proof.Machine

open Sys2Proof.Safety

section
variable {s u v : State} {k : AccessKind} {md : Bool} {w : Width} {va pa n : Word} {e : Exc} {i : Instr}
  {st : List Host.Cell}

theorem OnlyDrawn.drawn (h : OnlyDrawn s.drawn u) : OnlyDrawn s u := OnlyDrawn.trans ⟨s.free + 1, rfl⟩ h

theorem locate_onlyDrawn (h : locate k md w va s = .ok pa u) : OnlyDrawn s u := by
  rcases locate_state h with rfl | rfl
  · exact .refl
  · exact ⟨s.free + 1, rfl⟩

/-- The probe of ICBI makes none of the checks of an access, and leads where an access that passes them goes. -/
theorem probe_of_translate (h : translate k md w va s = .ok pa u) : probe va s = some pa := by
  unfold translate at h
  split at h; · cases h
  split at h; · cases h
  split at h; · cases h
  split at h
  · next htranslated =>
    split at h; · cases h
    split at h
    · cases h
    · cases h
    · next hwalk =>
      split at h
      · cases h
      · cases h
        simp only [probe, htranslated, hwalk, if_true]
  · next huntranslated =>
    cases h
    rw [probe, if_neg huntranslated]

theorem probe_of_locate (h : locate k md w va s = .ok pa u) : probe va s = some pa :=
  probe_of_translate (locate_eq_ok.mp h).1

theorem prefetch_of_located (h : locate .read s.md .byte va s.drawn = .ok pa u) :
    ∃ v, OnlyDrawn s v ∧ prefetch va s = done16 v := by
  unfold prefetch
  split
  · exact ⟨u, (locate_onlyDrawn h).drawn, by rw [h, Access.andThen]⟩
  · exact ⟨s.drawn, OnlyDrawn.refl.drawn, rfl⟩

theorem prefetch_of_exc (h : locate .read s.md .byte va s.drawn = .exc e u) :
    prefetch va s = raise e u ∨ ∃ v, OnlyDrawn s v ∧ prefetch va s = done16 v := by
  unfold prefetch
  split
  · exact .inl (by rw [h, Access.andThen])
  · exact .inr ⟨s.drawn, OnlyDrawn.refl.drawn, rfl⟩

theorem invalidateFetch_of_located (h : locate .read s.md .byte va s.drawn = .ok pa u) :
    ∃ v, OnlyDrawn s v ∧ invalidateFetch va s = done16 (v.invalidate pa) := by
  unfold invalidateFetch
  split
  · exact ⟨u, (locate_onlyDrawn h).drawn, by rw [h, Access.andThen]⟩
  · exact ⟨s.drawn, OnlyDrawn.refl.drawn, by rw [probe_of_locate h]⟩

theorem invalidateFetch_of_exc (h : locate .read s.md .byte va s.drawn = .exc e u) :
    invalidateFetch va s = raise e u ∨
      ∃ v st, OnlyDrawn s v ∧ invalidateFetch va s = done16 { v with stale := st } := by
  unfold invalidateFetch
  split
  · exact .inl (by rw [h, Access.andThen])
  · refine .inr ⟨s.drawn, ?_⟩
    split
    · exact ⟨_, OnlyDrawn.refl.drawn, rfl⟩
    · exact ⟨s.stale, OnlyDrawn.refl.drawn, rfl⟩

theorem completed_of_onlyDrawn (h : OnlyDrawn s v) :
    Completed i s (v.advance i.size) ∧ Frame s (v.advance i.size) [] [] [] [] [] :=
  ⟨completed_advance h.keepsCore.pc h.keepsCore.pending, frame_then_advance h.frame⟩

/-- An instruction that changes what a fetch may see, and nothing else. -/
theorem completed_of_stale (h : OnlyDrawn s v) :
    Completed i s (({ v with stale := st } : State).advance i.size) ∧
      Frame s { ({ v with stale := st } : State).advance i.size with stale := s.stale } [] [] [] [] [] := by
  obtain ⟨m, rfl⟩ := h
  have hrest : OnlyDrawn s { s with free := m } := ⟨m, rfl⟩
  exact ⟨completed_advance rfl rfl, (completed_of_onlyDrawn (i := i) hrest).2⟩

end

/-- Settles O43: each completes with draws alone, ICBI dropping the stale bytes of one word, or raises what the load
would. -/
theorem cacheInstructions : Obligations.CacheInstructions := by
  refine fun n s => ⟨fun pa u h => ⟨?_, ?_⟩, fun e u h => ⟨?_, ?_⟩⟩
  · obtain ⟨v, hv, hexec⟩ := prefetch_of_located h
    exact ⟨_, hexec, completed_of_onlyDrawn hv⟩
  · obtain ⟨v, hv, hexec⟩ := invalidateFetch_of_located h
    obtain ⟨hdone, hframe⟩ := completed_of_stale (i := .icbi n) (st := (v.invalidate pa).stale) hv
    obtain ⟨m, rfl⟩ := hv
    exact ⟨_, hexec, hdone, rfl, hframe⟩
  · refine (prefetch_of_exc h).imp id ?_
    rintro ⟨v, hv, hexec⟩
    exact ⟨_, hexec, completed_of_onlyDrawn hv⟩
  · refine (invalidateFetch_of_exc h).imp id ?_
    rintro ⟨v, st, hv, hexec⟩
    exact ⟨_, hexec, completed_of_stale hv⟩

end Sys2Proof.Machine
end

section
/-! PROOF. Arithmetic into general registers and T: the bit-vector meaning of each instruction is the integer of its
rule modulo 2^32, and T is judged on that integer (41_arithmetic.md R300 to R304, R320, R330, R335, R336, R340 to R343). -/

namespace Sys2Proof.Machine

open Sys2Proof.Safety

section
variable {s : State} {a b v : Word} {x : Int} {c : Bool} {i : Instr} {rn : Reg}

/-! ### Integers as 32-bit values, continued -/

theorem word_neg : word (-x) = -word x := BitVec.ofInt_neg

theorem word_sub {y : Int} : word (x - y) = word x - word y := by
  rw [Int.sub_eq_add_neg, word_add, word_neg, BitVec.sub_eq_add_neg]

theorem word_toInt : word v.toInt = v := BitVec.ofInt_toInt

/-- The register holds the integer modulo 2^32 (00_scope.md R11). -/
theorem toNat_word (x : Int) : ((word x).toNat : Int) = x % 2 ^ 32 := by
  rw [word, BitVec.toNat_ofInt]
  omega

theorem word_bit (c : Bool) : word (c.toNat : Int) = bit c := by cases c <;> rfl

/-- The `#-imm8` forms count down from 256 (30_encoding.md R133). -/
theorem word_sub_256_eq_onesExt (imm : BitVec 8) : word ((imm.toNat : Int) - 256) = onesExt imm := by
  have hsum : (0xFFFFFF#24 ++ imm).toNat = 0xFFFFFF * 2 ^ 8 + imm.toNat := toNat_append_eq_add ..
  have hones : onesExt imm = word (0xFFFFFF * 2 ^ 8 + imm.toNat : Nat) := eq_word_natCast hsum
  rw [hones, Nat.cast_add, word_add, word_sub, BitVec.sub_eq_add_neg, BitVec.add_comm]
  rfl

/-! ### What T is judged on -/

theorem carryOut_eq_decide : carryOut a b c = decide ((2 : Int) ^ 32 ≤ a.toNat + b.toNat + (c.toNat : Int)) :=
  decide_eq_decide.mpr (by omega)

theorem borrowOut_eq_decide : borrowOut a b c = decide ((a.toNat : Int) - b.toNat - (c.toNat : Int) < 0) :=
  decide_eq_decide.mpr (by omega)

theorem outOfSigned_eq_decide : outOfSigned x = decide (x < -2 ^ 31 ∨ 2 ^ 31 ≤ x) := by
  rw [outOfSigned, ← Bool.decide_or]
  exact decide_eq_decide.mpr (by omega)

theorem sub_one_beq_zero : (v - 1 == 0) = decide ((v.toNat : Int) - 1 = 0) :=
  decide_eq_decide.mpr (by bv_omega)

/-! ### The instructions -/

/-- Each of the arithmetic that leaves T alone writes the value of its rule: taking an integer modulo 2^32 commutes with
sums, differences and products. -/
theorem exec_arithmetic (h : arithmeticResult s i = some (rn, v)) (hs : Startable i s) :
    exec i s = .next ((s.setReg rn v).advance i.size) := by
  cases i with
  | add | addImm8 | sub | neg =>
    cases h
    refine toReg16_eq ?_
    simp only [Nat.cast_add, word_add, word_sub, word_neg, word_toNat, word_toInt_eq_sext, BitVec.ofNat_eq_ofNat,
      BitVec.zero_sub]
  | addImm16 | add3Imm8 | add3 | sub3Imm8 | sub3 | mul3Imm8 | mul3 =>
    cases h
    refine toReg32_eq (hs rfl) ?_
    simp only [Nat.cast_add, Nat.cast_mul, word_add, word_sub, word_mul, word_toNat, word_toInt_eq_sext,
      word_toNat_eq_zext]
  | mul3NegImm8 =>
    cases h
    refine toReg32_eq (hs rfl) ?_
    rw [word_mul, word_toNat, word_sub_256_eq_onesExt]
  | _ => cases h

theorem toRegT16_eq {b' : Bool} (hv : a = v) (hb : c = b') :
    toRegT16 rn a c s = .next (((s.setReg rn v).setT b').advance 2) := by rw [hv, hb]; rfl

/-- Each of the arithmetic that writes T leaves its exact value modulo 2^32 and the flag judged on the exact value. -/
theorem exec_carry (h : carryResult s i = some (rn, x, c)) :
    exec i s = .next (((s.setReg rn (word x)).setT c).advance i.size) := by
  cases i with
  | addc =>
    cases h
    exact toRegT16_eq (by simp only [word_add, word_toNat, word_bit]) carryOut_eq_decide
  | addv =>
    cases h
    exact toRegT16_eq (by simp only [word_add, word_toInt]) outOfSigned_eq_decide
  | subc =>
    cases h
    exact toRegT16_eq (by simp only [word_sub, word_toNat, word_bit]) borrowOut_eq_decide
  | subv =>
    cases h
    exact toRegT16_eq (by simp only [word_sub, word_toInt]) outOfSigned_eq_decide
  | negc =>
    cases h
    exact toRegT16_eq (by simp only [word_sub, word_toNat, word_bit]; rfl) borrowOut_eq_decide
  | dt =>
    cases h
    exact toRegT16_eq (by simp only [word_sub, word_toNat]; rfl) sub_one_beq_zero
  | _ => cases h

end

/-- Settles O28: each writes the value of its rule, and writing a register changes that register alone. -/
theorem arithmeticResults : Obligations.ArithmeticResults := by
  intro i s rn v h hs
  exact ⟨_, exec_arithmetic h hs, by rw [State.reg_advance, State.reg_setReg_same], completed_advance rfl rfl,
    frame_then_advance frame_setReg⟩

/-- Settles O29: the register takes the exact value modulo 2^32, T what is judged on it, and nothing else is written. -/
theorem carryResults : Obligations.CarryResults := by
  intro i s rn x c h
  refine ⟨_, exec_carry h, ?_, State.t_setT .., completed_advance rfl rfl,
    frame_then_advance (frame_trans frame_setReg frame_setT)⟩
  rw [State.reg_advance, State.reg_setT, State.reg_setReg_same, toNat_word]

/-- Settles O24: the sum is below 2^33, so that its carry and its value modulo 2^32 are the whole of it. -/
theorem addWithCarry : Obligations.AddWithCarry := by
  intro n m s w1
  obtain ⟨t, hexec, hreg, ht, hdone, hframe⟩ := carryResults (.addc m n) s n _ _ rfl
  refine ⟨decode_word16 rfl, t, hexec, ?_, hdone, hframe⟩
  rw [ht, Bool.toNat, Bool.cond_decide]
  have hn := (s.reg n).isLt
  have hm := (s.reg m).isLt
  have hc := Bool.toNat_le s.t
  split <;> omega

end Sys2Proof.Machine
end

section
/-! PROOF. Comparisons and tests: T is the relation of the rule (41_arithmetic.md R306 to R313; 42_logic_shift.md R357,
R358). -/

namespace Sys2Proof.Machine

open Sys2Proof.Safety

section
variable {s : State} {a b v : Word} {c c' : Bool} {i : Instr}

/-! ### Relations -/

theorem beq_eq_decide_toNat : (a == b) = decide (a.toNat = b.toNat) := decide_eq_decide.mpr BitVec.toNat_inj.symm

/-- A value extended from at most 32 bits stands for the same integer (00_scope.md R11). -/
theorem toInt_sext {n : Nat} (d : BitVec n) (hn : n ≤ 32) : (sext d).toInt = d.toInt := BitVec.toInt_signExtend_of_le hn

theorem beq_sext_eq_decide {n : Nat} (d : BitVec n) (hn : n ≤ 32) : (v == sext d) = decide (v.toInt = d.toInt) := by
  rw [← toInt_sext d hn]
  exact decide_eq_decide.mpr BitVec.toInt_inj.symm

theorem sext_sle_eq_decide {n : Nat} (d : BitVec n) (hn : n ≤ 32) : (sext d).sle v = decide (d.toInt ≤ v.toInt) := by
  rw [BitVec.sle, toInt_sext d hn]

theorem sext_slt_eq_decide {n : Nat} (d : BitVec n) (hn : n ≤ 32) : (sext d).slt v = decide (d.toInt < v.toInt) := by
  rw [BitVec.slt, toInt_sext d hn]

/-- The difference of two values is zero in a byte where their bytes are one. -/
theorem xorByte_beq_zero (k : Nat) :
    ((a ^^^ b).extractLsb' (8 * k) 8 == 0) = (a.toNat / 256 ^ k % 256 == b.toNat / 256 ^ k % 256) := by
  have hbyte (w : Word) : (w.extractLsb' (8 * k) 8).toNat = w.toNat / 256 ^ k % 256 := by
    rw [BitVec.extractLsb'_toNat, Nat.shiftRight_eq_div_pow, Nat.pow_mul]
  rw [Bool.eq_iff_iff, beq_iff_eq, beq_iff_eq, BitVec.extractLsb'_xor, ← hbyte a, ← hbyte b, BitVec.toNat_inj]
  exact BitVec.xor_eq_zero_iff

theorem anyByteEqual_eq_byteMatch : anyByteEqual a b = byteMatch a b := by
  have hbytes : byteMatch a b = (List.range 4).any fun k => (a ^^^ b).extractLsb' (8 * k) 8 == 0 := by
    simp only [byteMatch, xorByte_beq_zero]
  rw [hbytes, ← List.any_reverse]
  simp only [anyByteEqual, Bool.or_assoc, List.range, List.range.loop, List.reverse, List.reverseAux, List.any,
    Bool.or_false]

theorem extImm12_eq_imm12Value (signed : Bool) (imm : BitVec 12) : extImm12 signed imm = imm12Value signed imm := by
  rw [extImm12, imm12Value, word_toInt_eq_sext, word_toNat_eq_zext]

/-! ### The instructions -/

theorem toT16_eq (h : c = c') : toT16 c s = .next ((s.setT c').advance 2) := h ▸ rfl

theorem toT32_eq (hslot : s.pending = none) (h : c = c') : toT32 c s = .next ((s.setT c').advance 4) :=
  (notInSlot_of_none hslot).trans (h ▸ rfl)

/-- Each comparison or test sets T by its relation. -/
theorem exec_compare (h : compareResult s i = some c) (hs : Startable i s) :
    exec i s = .next ((s.setT c).advance i.size) := by
  cases i with
  | cmpEq =>
    cases h
    exact toT16_eq beq_eq_decide_toNat
  | cmpEqImm8 =>
    cases h
    exact toT16_eq (beq_sext_eq_decide _ (by omega))
  | cmpEqImm12 | cmpEqImm16 =>
    cases h
    exact toT32_eq (hs rfl) (beq_sext_eq_decide _ (by omega))
  | cmpGeImm12 =>
    cases h
    exact toT32_eq (hs rfl) (sext_sle_eq_decide _ (by omega))
  | cmpGtImm12 =>
    cases h
    exact toT32_eq (hs rfl) (sext_slt_eq_decide _ (by omega))
  | cmpStr =>
    cases h
    exact toT16_eq anyByteEqual_eq_byteMatch
  | tstImm8 =>
    cases h
    exact toT16_eq (by rw [word_toNat_eq_zext]; rfl)
  | tstImm12 =>
    cases h
    exact toT32_eq (hs rfl) (by rw [extImm12_eq_imm12Value]; rfl)
  -- The meaning of the others is the relation itself.
  | cmpGe | cmpGt | cmpHi | cmpHs | cmpPl | cmpPz | tst =>
    cases h
    exact toT16_eq rfl
  | cmpHiImm12 | cmpHsImm12 =>
    cases h
    exact toT32_eq (hs rfl) rfl
  | _ => cases h

end

/-- Settles O30: each sets T by its relation, and setting T changes that bit alone. -/
theorem compareResults : Obligations.CompareResults := by
  intro i s c h hs
  exact ⟨_, exec_compare h hs, State.t_setT .., completed_advance rfl rfl, frame_then_advance frame_setT⟩

end Sys2Proof.Machine
end

section
/-! PROOF. Products in MACH:MACL, the division steps, and the instructions that clear and set: MACH, MACL and the flags
Q, M, S and T (41_arithmetic.md R315 to R319, R331 to R333; 44_system.md R450 to R452, R454, R455). -/

namespace Sys2Proof.Machine

open Sys2Proof.Safety

section
variable {s : State} {a b v lo : Word} {hi : Option Word} {p : DWord} {i : Instr} {rm rn : Reg} {q m t : Bool}

/-! ### What the updates leave unchanged -/

theorem frame_setMacl : Frame s (s.setMacl v) [] [] [.macl] [] [] := frame_setSpecial (x := .macl)

theorem frame_setMach : Frame s (s.setMach v) [] [] [.mach] [] [] := frame_setSpecial (x := .mach)

theorem setMac_eq : setMac p s = (s.setMach (hiWord p)).setMacl (loWord p) := rfl

theorem frame_setMac : Frame s (setMac p s) [] [] [.mach, .macl] [] [] :=
  setMac_eq ▸ frame_trans frame_setMach frame_setMacl

theorem frame_setS : Frame s (s.setS t) [] [1] [] [] [] :=
  { frame_refl with
    reg := fun r _ => s.reg_setS t r
    bank := State.otherBank_congr (s.setS_bankA t) (s.setS_bankB t) (s.bankBActive_setS t)
    sr := fun j hj => by rw [State.setS_sr, getLsbD_setBit _ _ _ _ (by omega), if_neg (List.ne_of_not_mem_cons hj)]
    special := fun x _ => by cases x <;> rfl }

/-- Bit by bit, what the divide step leaves in SR. -/
theorem getLsbD_setQMT (j : Nat) : (s.setQMT q m t).sr.getLsbD j =
    if j = 0 then t else if j = 9 then m else if j = 8 then q else s.sr.getLsbD j := by
  simp (disch := decide) only [State.setQMT_sr, getLsbD_setBit]

theorem frame_setQMT : Frame s (s.setQMT q m t) [] [0, 8, 9] [] [] [] :=
  { frame_refl with
    reg := fun r _ => s.reg_setQMT q m t r
    bank := State.otherBank_congr (s.setQMT_bankA q m t) (s.setQMT_bankB q m t) (s.bankBActive_setQMT q m t)
    sr := fun j hj => by
      simp only [List.mem_cons, not_or] at hj
      obtain ⟨ht, hq, hm, -⟩ := hj
      rw [getLsbD_setQMT, if_neg ht, if_neg hm, if_neg hq]
    special := fun x _ => by cases x <;> rfl }

/-- With M written as it was, Q and T alone change. -/
theorem frame_setQMT_same : Frame s (s.setQMT q s.m t) [] [0, 8] [] [] [] :=
  { frame_setQMT with
    sr := fun j hj => by
      simp only [List.mem_cons, not_or] at hj
      obtain ⟨ht, hq, -⟩ := hj
      rw [getLsbD_setQMT, if_neg ht, if_neg hq]
      split
      · next hm => rw [hm]; rfl
      · rfl }

/-! ### Products -/

/-- The two halves of an integer modulo 2^64 (41_arithmetic.md R318, R319). -/
theorem loWord_ofInt (x : Int) : loWord (BitVec.ofInt 64 x) = word x := by
  refine BitVec.eq_of_toNat_eq ?_
  rw [loWord, BitVec.extractLsb'_toNat, Nat.shiftRight_zero, word, BitVec.toNat_ofInt, BitVec.toNat_ofInt]
  omega

theorem hiWord_ofInt (x : Int) : hiWord (BitVec.ofInt 64 x) = word (x / 2 ^ 32) := by
  refine BitVec.eq_of_toNat_eq ?_
  rw [hiWord, BitVec.extractLsb'_toNat, Nat.shiftRight_eq_div_pow, word, BitVec.toNat_ofInt, BitVec.toNat_ofInt]
  omega

theorem setMac_ofInt (x : Int) : setMac (BitVec.ofInt 64 x) s = (s.setMach (word (x / 2 ^ 32))).setMacl (word x) := by
  rw [setMac_eq, hiWord_ofInt, loWord_ofInt]

/-- No product of two signed values leaves the signed 64-bit range (41_arithmetic.md R318). -/
theorem toInt_signedProduct : (signedProduct a b).toInt = a.toInt * b.toInt := by
  have hle : a.toInt * b.toInt ≤ 2 ^ 62 := BitVec.toInt_mul_toInt_le
  have hge : -2 ^ 62 ≤ a.toInt * b.toInt := BitVec.le_toInt_mul_toInt
  exact BitVec.toInt_ofInt_eq_self (by omega) (by omega) (by omega)

/-- No product of two values reaches 2^64 (41_arithmetic.md R319). -/
theorem toNat_unsignedProduct : (unsignedProduct a b).toNat = a.toNat * b.toNat := by
  have hlt : a.toNat * b.toNat < 2 ^ 32 * 2 ^ 32 := Nat.mul_lt_mul'' a.isLt b.isLt
  exact Nat.mod_eq_of_lt hlt

/-- Each multiplication, and CLRMAC, writes MACL and, where its rule names it, MACH. -/
theorem exec_multiply (h : macResult s i = some (hi, lo)) :
    exec i s = .next (((hi.elim s s.setMach).setMacl lo).advance i.size) := by
  cases i with
  | mulL =>
    cases h
    rw [Nat.cast_mul, word_mul, word_toNat, word_toNat]
    rfl
  | mulsW =>
    cases h
    rw [word_mul, ← sext_low_eq_word _ (by omega), ← sext_low_eq_word _ (by omega)]
    rfl
  | muluW =>
    cases h
    rw [word_mul, ← zext_low_eq_word, ← zext_low_eq_word]
    rfl
  | dmulsL =>
    cases h
    exact congrArg done16 (setMac_ofInt _)
  | dmuluL rm rn =>
    cases h
    have hprod : unsignedProduct (s.reg rn) (s.reg rm) = BitVec.ofInt 64 ((s.reg rn).toNat * (s.reg rm).toNat : Nat) :=
      (BitVec.ofInt_natCast ..).symm
    exact congrArg done16 ((congrArg (setMac · s) hprod).trans (setMac_ofInt _))
  | clrmac =>
    cases h
    rfl
  | _ => cases h

/-! ### The division -/

/-- The dividend shifted left, with T entering (41_arithmetic.md R317). -/
theorem divShifted_eq_word : divShifted v t = word (2 * v.toNat + t.toNat : Nat) := by
  have hdouble : v <<< 1 = word (2 * v.toNat : Nat) := by
    rw [Nat.mul_comm, Nat.cast_mul, word_mul, word_toNat]
    exact BitVec.shiftLeft_eq_mul_twoPow v 1
  have hsum : divShifted v t = v <<< 1 + bit t := by
    cases t with
    | false => exact BitVec.or_zero.trans (BitVec.add_zero _).symm
    | true => exact (BitVec.shiftLeft_add_eq_shiftLeft_or (x := 1#32)).symm
  rw [hsum, hdouble, Nat.cast_add, word_add, word_bit]

/-- One step on integers: the dividend as it is after the shift, and what is left of it (41_arithmetic.md R317). -/
structure DivideStep (s : State) (rm rn : Reg) (dn d : Int) : Prop where
  dn_eq : dn = (2 * (s.reg rn).toNat + s.t.toNat : Nat) % 2 ^ 32
  d_eq : d = if s.q = s.m then dn - (s.reg rm).toNat else dn + (s.reg rm).toNat

variable {dn d : Int}

theorem DivideStep.toNat_divShifted (h : DivideStep s rm rn dn d) : ((divShifted (s.reg rn) s.t).toNat : Int) = dn := by
  rw [h.dn_eq, divShifted_eq_word, toNat_word]

theorem DivideStep.value_eq (h : DivideStep s rm rn dn d) :
    divStepValue (s.reg rn) (s.reg rm) s.q s.m s.t = word d := by
  rw [h.d_eq, ← h.toNat_divShifted, divStepValue]
  split <;> simp only [word_add, word_sub, word_toNat]

/-- The carry is whether the result leaves the unsigned range. -/
theorem DivideStep.carry_eq (h : DivideStep s rm rn dn d) :
    divStepCarry (s.reg rn) (s.reg rm) s.q s.m s.t = decide (d < 0 ∨ 2 ^ 32 ≤ d) := by
  have hdn := (divShifted (s.reg rn) s.t).isLt
  rw [h.d_eq, ← h.toNat_divShifted, divStepCarry]
  split
  · rw [borrowOut_eq_decide, Bool.toNat_false]
    exact decide_eq_decide.mpr (by omega)
  · rw [carryOut_eq_decide, Bool.toNat_false]
    exact decide_eq_decide.mpr (by omega)

end

/-- Settles O31: what each writes is MACL and, where its rule names it, MACH. -/
theorem multiplyResults : Obligations.MultiplyResults := by
  intro i s hi lo h
  refine ⟨_, exec_multiply h, rfl, ?_, ?_⟩
  · cases hi <;> rfl
  · cases hi with
    | none => exact ⟨completed_advance rfl rfl, frame_then_advance frame_setMacl⟩
    | some v => exact ⟨completed_advance rfl rfl, frame_then_advance (frame_trans frame_setMach frame_setMacl)⟩

/-- Settles O25: MACH:MACL is the 64-bit product, which no two operands overflow. -/
theorem wideMultiply : Obligations.WideMultiply := by
  intro n m s w1
  refine ⟨⟨decode_word16 rfl, _, rfl, ?_, completed_advance rfl rfl, frame_then_advance frame_setMac⟩,
    decode_word16 rfl, _, rfl, ?_, completed_advance rfl rfl, frame_then_advance frame_setMac⟩
  · exact (congrArg BitVec.toInt (hiWord_append_loWord _)).trans toInt_signedProduct
  · exact (congrArg BitVec.toNat (hiWord_append_loWord _)).trans toNat_unsignedProduct

/-- Settles O32: the result and the carry of one step, judged on the exact integer, with M as it was. -/
theorem divideResults : Obligations.DivideResults := by
  intro m n s
  refine ⟨⟨_, rfl, State.q_setQMT .., State.m_setQMT .., State.t_setQMT .., completed_advance rfl rfl,
    frame_then_advance frame_setQMT⟩, fun dn d hdn hd => ?_⟩
  have hstep : DivideStep s m n dn d := ⟨hdn, hd⟩
  have hq : divStepQ (s.reg n) (s.reg m) s.q s.m s.t = (((s.reg n).msb != s.m) != decide (d < 0 ∨ 2 ^ 32 ≤ d)) :=
    congrArg _ hstep.carry_eq
  refine ⟨_, rfl, ?_, (State.q_setQMT ..).trans hq, ?_, completed_advance rfl rfl,
    frame_then_advance (frame_trans frame_setReg frame_setQMT_same)⟩
  · rw [State.reg_advance, State.reg_setQMT, State.reg_setReg_same, hstep.value_eq, toNat_word]
  · exact (State.t_setQMT ..).trans (congrArg (· == s.m) (State.q_setQMT ..).symm)

/-- Settles O26: each word is its instruction's, and each instruction one update of the state. -/
theorem clearAndSet : Obligations.ClearAndSet := by
  intro s w1
  obtain ⟨t, hexec, hmacl, hmach, hdone, hframe⟩ := multiplyResults .clrmac s _ _ rfl
  refine ⟨⟨rfl, _, rfl, ?_⟩, ⟨rfl, t, hexec, hmach, hmacl, hdone, hframe⟩, ⟨rfl, _, rfl, ?_⟩, ⟨rfl, _, rfl, ?_⟩,
    ⟨rfl, _, rfl, ?_⟩, ⟨rfl, _, rfl, ?_⟩⟩
  · exact ⟨State.q_setQMT .., State.m_setQMT .., State.t_setQMT .., completed_advance rfl rfl,
      frame_then_advance frame_setQMT⟩
  · exact ⟨State.sBit_setS .., completed_advance rfl rfl, frame_then_advance frame_setS⟩
  · exact ⟨State.sBit_setS .., completed_advance rfl rfl, frame_then_advance frame_setS⟩
  · exact ⟨State.t_setT .., completed_advance rfl rfl, frame_then_advance frame_setT⟩
  · exact ⟨State.t_setT .., completed_advance rfl rfl, frame_then_advance frame_setT⟩

end Sys2Proof.Machine
end

section
/-! PROOF. Logic and shifts: the bits of each are those of its rule, a shift the quotient or the multiple by a power of two
modulo 2^32, and T the bit that left the register (42_logic_shift.md R350 to R356, R359 to R384). -/

namespace Sys2Proof.Machine

open Sys2Proof.Safety

section
variable {s : State} {c v : Word} {k : Nat} {x : Int} {d : Bool} {i : Instr} {rn : Reg}

/-! ### One register written -/

/-- An instruction that writes one register and passes on changes that register alone. -/
theorem completes_of_setReg (h : exec i s = .next ((s.setReg rn v).advance i.size)) :
    ∃ t, exec i s = .next t ∧ t.reg rn = v ∧ Completed i s t ∧ Frame s t [rn] [] [] [] [] :=
  ⟨_, h, by rw [State.reg_advance, State.reg_setReg_same], completed_advance rfl rfl, frame_then_advance frame_setReg⟩

/-! ### Logic -/

/-- NOT is the difference from all ones (42_logic_shift.md R353). -/
theorem complement_eq_xor : ~~~v = v ^^^ 0xFFFFFFFF := BitVec.xor_allOnes.symm

/-- Each of the logic instructions writes the bits of its rule. -/
theorem exec_logic (h : logicResult s i = some (rn, v)) (hs : Startable i s) :
    exec i s = .next ((s.setReg rn v).advance i.size) := by
  cases i with
  | and | or | xor =>
    cases h
    exact toReg16_eq rfl
  | and3 | or3 | xor3 | andImm12 =>
    cases h
    exact toReg32_eq (hs rfl) rfl
  | not =>
    cases h
    exact toReg16_eq complement_eq_xor
  | andImm8 | orImm8 | xorImm8 =>
    cases h
    exact toReg16_eq (by rw [word_toNat_eq_zext])
  | and3Imm8 | or3Imm8 | xor3Imm8 | xorImm12 =>
    cases h
    exact toReg32_eq (hs rfl) (by rw [word_toNat_eq_zext])
  | and3NegImm8 =>
    cases h
    exact toReg32_eq (hs rfl) (by rw [word_sub_256_eq_onesExt])
  | orImm12 =>
    cases h
    exact toReg32_eq (hs rfl) (by rw [extImm12_eq_imm12Value])
  | _ => cases h

/-! ### Shifts as multiples and quotients -/

theorem word_mul_two_pow : word (x * 2 ^ k) = word x <<< k := by
  have hpow : word (2 ^ k) = BitVec.twoPow 32 k := by
    rw [← Nat.cast_ofNat, ← Nat.cast_pow, word_natCast]
    exact BitVec.eq_of_toNat_eq (BitVec.toNat_twoPow ..).symm
  rw [word_mul, hpow, BitVec.shiftLeft_eq_mul_twoPow]

theorem shiftLeft_eq_word : v <<< k = word (v.toNat * 2 ^ k : Nat) := by
  rw [Nat.cast_mul, Nat.cast_pow, Nat.cast_ofNat, word_mul_two_pow, word_toNat]

theorem shiftRight_eq_word : v >>> k = word (v.toNat / 2 ^ k : Nat) :=
  eq_word_natCast (by rw [BitVec.toNat_ushiftRight, Nat.shiftRight_eq_div_pow])

theorem sshiftRight_eq_word : v.sshiftRight k = word (v.toInt / 2 ^ k) := by
  rw [BitVec.sshiftRight, Int.shiftRight_eq_div_pow]
  rfl

/-! ### One-bit shifts and rotates -/

theorem msb_eq_getLsbD : v.msb = v.getLsbD 31 := BitVec.msb_eq_getLsbD_last v

theorem toNat_getLsbD_top : (v.getLsbD 31).toNat = v.toNat / 2 ^ 31 := by
  have := v.isLt
  rw [BitVec.getLsbD, Nat.toNat_testBit]
  omega

theorem toNat_getLsbD_low : (v.getLsbD 0).toNat = v.toNat % 2 := by
  rw [BitVec.getLsbD, Nat.toNat_testBit, Nat.pow_zero, Nat.div_one]

/-- A bit enters from the right as the register moves left (42_logic_shift.md R363, R365). -/
theorem shiftLeft_or_bit_eq_word : (v <<< 1) ||| bit d = word (v.toNat * 2 + d.toNat : Nat) := by
  rw [Nat.mul_comm]
  exact divShifted_eq_word

/-- A bit enters from the left as the register moves right (42_logic_shift.md R364, R366). -/
theorem bit_or_shiftRight_eq_word : (bit d <<< 31) ||| (v >>> 1) = word (v.toNat / 2 + d.toNat * 2 ^ 31 : Nat) := by
  have hhalf : (v >>> 1).toNat = v.toNat / 2 := by
    rw [BitVec.toNat_ushiftRight, Nat.shiftRight_eq_div_pow, Nat.pow_one]
  have hbit : (bit d <<< 31).toNat = d.toNat <<< 31 := by cases d <;> rfl
  have hlt : v.toNat / 2 < 2 ^ 31 := by have := v.isLt; omega
  refine eq_word_natCast ?_
  rw [BitVec.toNat_or, hbit, hhalf, ← Nat.shiftLeft_add_eq_or_of_lt hlt, Nat.shiftLeft_eq, Nat.add_comm]

/-- Each of the one-bit shifts and rotates writes the value of its rule, and in T the bit that left the register. -/
theorem exec_oneBit (h : oneBitResult s i = some (rn, v, d)) :
    exec i s = .next (((s.setReg rn v).setT d).advance i.size) := by
  cases i with
  | rotl =>
    cases h
    exact toRegT16_eq (by rw [shiftLeft_or_bit_eq_word, msb_eq_getLsbD, toNat_getLsbD_top]) msb_eq_getLsbD
  | rotr =>
    cases h
    exact toRegT16_eq (by rw [bit_or_shiftRight_eq_word, toNat_getLsbD_low]) rfl
  | rotcl =>
    cases h
    exact toRegT16_eq shiftLeft_or_bit_eq_word msb_eq_getLsbD
  | rotcr =>
    cases h
    exact toRegT16_eq bit_or_shiftRight_eq_word rfl
  | shal | shll =>
    cases h
    exact toRegT16_eq shiftLeft_eq_word msb_eq_getLsbD
  | shar =>
    cases h
    exact toRegT16_eq sshiftRight_eq_word rfl
  | shlr =>
    cases h
    exact toRegT16_eq shiftRight_eq_word rfl
  | _ => cases h

/-! ### Shifts by a signed count -/

/-- The sign of a count is its highest bit (42_logic_shift.md R362). -/
theorem msb_eq_false_iff_toInt_nonneg : c.msb = false ↔ 0 ≤ c.toInt := by
  rw [BitVec.msb_eq_toInt, decide_eq_false_iff_not, Int.not_lt]

theorem shld_eq_logicalShift : shld v c = logicalShift v c := by
  have hright (n : Nat) : v >>> n = word ((v.toNat : Int) / 2 ^ n) := by
    rw [shiftRight_eq_word, Int.natCast_ediv, Nat.cast_pow, Nat.cast_ofNat]
  simp only [shld, logicalShift, msb_eq_false_iff_toInt_nonneg, word_mul_two_pow, word_toNat, hright]

/-- An arithmetic shift by 32 leaves the sign alone (42_logic_shift.md R362). -/
theorem signFill_eq_word : (if v.msb then 0xFFFFFFFF else 0) = word (v.toInt / 2 ^ 32) := by
  have hlt : v.toInt < 2 ^ 31 := BitVec.toInt_lt
  have hle : -2 ^ 31 ≤ v.toInt := BitVec.le_toInt v
  rw [BitVec.msb_eq_toInt]
  by_cases hneg : v.toInt < 0
  · have hquot : v.toInt / 2 ^ 32 = -1 := by omega
    rw [hquot, if_pos (decide_eq_true hneg)]
    rfl
  · have hquot : v.toInt / 2 ^ 32 = 0 := by omega
    rw [hquot, decide_eq_false hneg]
    rfl

theorem shad_eq_arithmeticShift : shad v c = arithmeticShift v c := by
  simp only [shad, arithmeticShift, msb_eq_false_iff_toInt_nonneg, word_mul_two_pow, word_toInt, signFill_eq_word,
    sshiftRight_eq_word]

/-- The negated count of the three-register SHLR and SHAR (42_logic_shift.md R383, R384). -/
theorem word_neg_toNat : word (-(c.toNat : Int)) = 0 - c := by
  rw [word_neg, word_toNat, BitVec.ofNat_eq_ofNat, BitVec.zero_sub]

/-- Each of the shifts that leave T alone writes the value of its rule. -/
theorem exec_shift (h : shiftResult s i = some (rn, v)) (hs : Startable i s) :
    exec i s = .next ((s.setReg rn v).advance i.size) := by
  cases i with
  | shll2 | shll4 | shll8 | shll16 =>
    cases h
    exact toReg16_eq shiftLeft_eq_word
  | shlr2 | shlr4 | shlr8 | shlr16 =>
    cases h
    exact toReg16_eq shiftRight_eq_word
  | shad =>
    cases h
    exact toReg16_eq shad_eq_arithmeticShift
  | shld =>
    cases h
    exact toReg16_eq shld_eq_logicalShift
  | shad3Imm8 | shad3 =>
    cases h
    exact toReg32_eq (hs rfl) shad_eq_arithmeticShift
  | shld3Imm8 | shld3 =>
    cases h
    exact toReg32_eq (hs rfl) shld_eq_logicalShift
  | shar3 =>
    cases h
    exact toReg32_eq (hs rfl) (by rw [shad_eq_arithmeticShift, word_neg_toNat])
  | shlr3 =>
    cases h
    exact toReg32_eq (hs rfl) (by rw [shld_eq_logicalShift, word_neg_toNat])
  | _ => cases h

end

/-- Settles O33: each writes the bits of its rule, and writing a register changes that register alone. -/
theorem logicResults : Obligations.LogicResults :=
  fun _ _ _ _ h hs => completes_of_setReg (exec_logic h hs)

/-- Settles O34: the register takes the value of its rule, T the bit that left it, and nothing else is written. -/
theorem oneBitShiftResults : Obligations.OneBitShiftResults := by
  intro i s rn v d h
  refine ⟨_, exec_oneBit h, ?_, State.t_setT .., completed_advance rfl rfl,
    frame_then_advance (frame_trans frame_setReg frame_setT)⟩
  rw [State.reg_advance, State.reg_setT, State.reg_setReg_same]

/-- Settles O35: each writes the value of its rule, and writing a register leaves T and the rest as they were. -/
theorem barrelShiftResults : Obligations.BarrelShiftResults :=
  fun _ _ _ _ h hs => completes_of_setReg (exec_shift h hs)

end Sys2Proof.Machine
end

section
/-! PROOF. A step is `exec` of the instruction fetched, and a slot-illegal instruction in a delay slot is trap entry
(43_branch.md R400, R401; 60_exceptions.md R603). -/

namespace Sys2Proof.Machine

open Sys2Proof.Safety

section
variable {s : State} {i : Instr} {k : Res} {pa : Nat}

theorem notInSlot_of_pending (h : s.pending ≠ none) : notInSlot s k = raise .illSlot s := by
  rw [notInSlot, State.inSlot, if_pos (Option.isSome_iff_ne_none.mpr h)]

/-- A slot-illegal instruction looks for a delay slot before anything else, the checks of mode, FPU and index register
included. -/
theorem exec_slotIllegal (h : slotIllegal i = true) (hslot : s.pending ≠ none) : exec i s = raise .illSlot s := by
  cases i with
  -- Branches, RTE and TRAPA.
  | bf8 | bt8 | bf16 | bt16 | bfS8 | btS8 | bfS16 | btS16 | bra | braN8 | braN16 | braf | jmp | rts | rtsN | bsr | bsrf
  | bsrN16 | jsr | jsrN | rte | trapa => exact notInSlot_of_pending hslot
  -- 16-bit forms that take an address from the pc.
  | movWLoadPcDisp | movLLoadPcDisp | mova | movBStorePcR0 | movWStorePcR0 | movLStorePcR0 | movBLoadPcR0 | movWLoadPcR0
  | movLLoadPcR0 | leaBPcR0 | fmovStorePcR0 | fmovLoadPcR0 => exact notInSlot_of_pending hslot
  -- 32-bit loads and stores.
  | movBLoadIdx4 | movWLoadIdx4 | movLLoadIdx4 | movLLoadIdx8 | movuBLoadIdx | movuWLoadIdx | movBLoadDisp8
  | movWLoadDisp8 | movLLoadDisp8 | movuBLoadDisp8 | movuWLoadDisp8 | movBLoadGbr12 | movWLoadGbr12 | movLLoadGbr12
  | movBStoreIdx4 | movWStoreIdx4 | movLStoreIdx4 | movLStoreIdx8 | movBStoreDisp8 | movWStoreDisp8 | movLStoreDisp8
  | movBStoreGbr12 | movWStoreGbr12 | movLStoreGbr12 => exact notInSlot_of_pending hslot
  -- 32-bit forms that write one register.
  | movi24 | movImm16 | ldsh16 | cselt | addImm16 | add3Imm8 | add3 | sub3Imm8 | sub3 | mul3Imm8 | mul3NegImm8 | mul3
  | and3Imm8 | and3NegImm8 | and3 | or3Imm8 | or3 | xor3Imm8 | xor3 | andImm12 | orImm12 | xorImm12 | shad3Imm8 | shad3
  | shld3Imm8 | shld3 | shar3 | shlr3 | leaBDisp8 | leaWDisp8 | leaLDisp8 | leaQDisp8 | leaBIdx4 | leaWIdx4 | leaLIdx4
  | leaQIdx4 => exact notInSlot_of_pending hslot
  -- 32-bit comparisons.
  | cmpEqImm12 | cmpHsImm12 | cmpGeImm12 | cmpHiImm12 | cmpGtImm12 | cmpEqImm16 | tstImm12 =>
    exact notInSlot_of_pending hslot
  -- 32-bit forms of the FPU.
  | fadd3 | fsub3 | fmul3 | fdiv3 | fmovLoadDisp8 | fmovLoadIdx | fmovStoreDisp8 | fmovStoreIdx | ldhf16Imm | ldif16 =>
    exact notInSlot_of_pending hslot
  | _ => cases h

/-- In a delay slot the first word of a 32-bit form is enough: the state of the trap is the one after its fetch. -/
theorem step_wide_inSlot (hs : Undisturbed s) (hpath : FetchPath s false pa pa) (hwide : isWide (wordAt s pa) = true)
    (hslot : s.pending ≠ none) : ∃ n, step s = raise .illSlot (atExecution s n) := by
  obtain ⟨u, hfirst, hfresh, -⟩ := hpath
  have hfetch : fetch s.consumed.fetchMd s.consumed.pc s.consumed = .ok (wordAt s pa) u.drawn.drawn :=
    fetch_of_fresh hfirst hfresh
  have hu : OnlyDrawn s.consumed u.drawn.drawn := (resolve_onlyDrawn hfirst).drawn_drawn
  have hpending : u.drawn.drawn.pending ≠ none := fun h => hslot (hu.keepsCore.pending.symm.trans h)
  obtain ⟨n, hn⟩ := hu.atExecution
  refine ⟨n, ?_⟩
  rw [step_of_undisturbed hs, runInstruction, hfetch, Access.andThen, if_pos hwide, runWide,
    notInSlot_of_pending hpending, hn]

end

/-- Settles O4: the step runs what is decoded, which here is an instruction. -/
theorem stepRunsDecodedInstruction : Obligations.StepRunsDecodedInstruction := by
  intro s i pa pb hs hpath hwide hdec hslot
  obtain ⟨n, hstep⟩ := step_runs_decoded hs hpath hwide hslot
  rw [hdec] at hstep
  exact ⟨n, hstep⟩

/-- Settles O13: the check for a delay slot comes first, in `exec` and in a step that has fetched one word. -/
theorem slotIllegalTraps : Obligations.SlotIllegalTraps := by
  intro s hslot hbl
  refine ⟨fun i hi => (exec_slotIllegal hi hslot).trans (raise_of_not_blocked hbl), fun pa hs hpath hwide => ?_⟩
  obtain ⟨n, hstep⟩ := step_wide_inSlot hs hpath hwide hslot
  exact ⟨n, hstep.trans (raise_of_not_blocked hbl)⟩

end Sys2Proof.Machine
end

section
/-! PROOF. Branches, calls and returns: each writes PR where it is a call, and goes on at its target or after itself, at
once or past a delay slot (43_branch.md R400, R402 to R420). -/

namespace Sys2Proof.Machine

open Sys2Proof.Safety

/-- The state with the return address of a call in PR. -/
def linked (s : State) (f : BranchForm) : State := f.link.elim s s.setPr

/-- Where a branch goes on, once its slot, if it has one, is passed (43_branch.md R400(e)). -/
def continuation (i : Instr) (s : State) (f : BranchForm) : Word :=
  if f.taken then f.target else fallThrough i s f.delayed

/-- The state a branch leaves. -/
def branched (i : Instr) (s : State) (f : BranchForm) : State :=
  if f.delayed then (linked s f).delay i.size (continuation i s f) else (linked s f).jump (continuation i s f)

section
variable {s : State} {a b n v x : Word} {taken : Bool} {i : Instr} {f : BranchForm}

/-! ### Targets -/

theorem target16_eq_word {k : Nat} (label : BitVec k) :
    target16 s label = word (s.pc.toNat + 4 + label.toInt * 2) := by
  rw [word_add, word_add, word_mul, word_toNat, word_toInt_eq_sext]
  rfl

theorem target32_eq_word (label : BitVec 16) : target32 s label = word (s.pc.toNat + 6 + label.toInt * 2) := by
  rw [word_add, word_add, word_mul, word_toNat, word_toInt_eq_sext]
  rfl

theorem targetReg_eq_word : s.pc + 4 + v = word (s.pc.toNat + 4 + v.toNat : Nat) := by
  rw [Nat.cast_add, Nat.cast_add, word_add, word_add, word_toNat, word_toNat]
  rfl

/-! ### Shapes -/

theorem jump_eq (h : a = b) : (.next (s.jump a) : Res) = .next (s.jump b) := by rw [h]

theorem delay_eq (h : a = b) : (.next (s.delay n a) : Res) = .next (s.delay n b) := by rw [h]

/-- Outside a delay slot, passing an instruction is a jump past it. -/
theorem advance_of_none (h : s.pending = none) : s.advance n = s.jump (s.pc + n) := by
  rw [State.advance, h, State.jump]

/-- A conditional branch without delay slot, of `n` bytes (43_branch.md R403, R419). -/
theorem branchIf_eq (hslot : s.pending = none) (h : a = b) :
    (if taken then .next (s.jump a) else .next (s.advance n) : Res) =
      .next (s.jump (if taken then b else s.pc + n)) := by
  rw [h, advance_of_none hslot]
  cases taken <;> rfl

/-- A conditional branch with delay slot, of `n` bytes (43_branch.md R404, R420). -/
theorem delayIf_eq (h : a = b) (hn : n + 2 = v) :
    (.next (s.delay n (if taken then a else s.pc + v)) : Res) =
      .next (s.delay n (if taken then b else s.pc + n + 2)) := by
  rw [h, BitVec.add_assoc, hn]

/-! ### The instructions -/

/-- Outside a delay slot each branch leaves the state its form names. -/
theorem exec_branch (h : branchForm s i = some f) (hs : Startable i s) : exec i s = .next (branched i s f) := by
  cases i with
  | bf8 | bt8 =>
    cases h
    exact (notInSlot_of_none (hs rfl)).trans (branchIf_eq (hs rfl) (target16_eq_word _))
  | bf16 | bt16 =>
    cases h
    exact (notInSlot_of_none (hs rfl)).trans (branchIf_eq (hs rfl) (target32_eq_word _))
  | bfS8 | btS8 =>
    cases h
    exact (notInSlot_of_none (hs rfl)).trans (delayIf_eq (target16_eq_word _) rfl)
  | bfS16 | btS16 =>
    cases h
    exact (notInSlot_of_none (hs rfl)).trans (delayIf_eq (target32_eq_word _) rfl)
  | bra | bsr =>
    cases h
    exact (notInSlot_of_none (hs rfl)).trans (delay_eq (target16_eq_word _))
  | braN8 =>
    cases h
    exact (notInSlot_of_none (hs rfl)).trans (jump_eq (target16_eq_word _))
  | braN16 | bsrN16 =>
    cases h
    exact (notInSlot_of_none (hs rfl)).trans (jump_eq (target32_eq_word _))
  | braf | bsrf =>
    cases h
    exact (notInSlot_of_none (hs rfl)).trans (delay_eq targetReg_eq_word)
  | jmp | jsr | rts =>
    cases h
    exact (notInSlot_of_none (hs rfl)).trans (delay_eq rfl)
  | rtsN | jsrN =>
    cases h
    exact (notInSlot_of_none (hs rfl)).trans (jump_eq rfl)
  | _ => cases h

/-! ### What a branch leaves -/

theorem branched_of_not_delayed (h : f.delayed = false) :
    branched i s f = (linked s f).jump (if f.taken then f.target else fallThrough i s false) := by
  rw [branched, continuation, h, if_neg Bool.false_ne_true]

theorem branched_of_delayed (h : f.delayed = true) :
    branched i s f = (linked s f).delay i.size (if f.taken then f.target else fallThrough i s true) := by
  rw [branched, continuation, h, if_pos rfl]

theorem linked_pc : (linked s f).pc = s.pc := by
  rw [linked]
  cases f.link <;> rfl

theorem linked_md : (linked s f).md = s.md := by
  rw [linked]
  cases f.link <;> rfl

theorem linked_pr : (linked s f).pr = f.link.getD s.pr := by
  rw [linked]
  cases f.link <;> rfl

theorem frame_setPr : Frame s (s.setPr v) [] [] [.pr] [] [] := frame_setSpecial (x := .pr)

theorem frame_linked : Frame s (linked s f) [] [] (if f.link.isSome then [.pr] else []) [] [] := by
  rw [linked]
  cases f.link with
  | none => exact frame_refl
  | some v => exact frame_setPr

theorem frame_jump : Frame s (s.jump x) [] [] [] [] [] :=
  { frame_refl with
    reg := fun q _ => s.reg_jump x q
    bank := fun b => State.otherBank_congr (s := s) rfl rfl rfl b
    special := fun y _ => by cases y <;> rfl }

theorem frame_delay : Frame s (s.delay n x) [] [] [] [] [] :=
  { frame_refl with
    reg := fun q _ => s.reg_delay n x q
    bank := fun b => State.otherBank_congr (s := s) rfl rfl rfl b
    special := fun y _ => by cases y <;> rfl }

/-- A branch changes PR, where it is a call, and where execution goes on. -/
theorem frame_branched : Frame s (branched i s f) [] [] (if f.link.isSome then [.pr] else []) [] [] := by
  rw [branched]
  split
  · simpa only [List.append_nil] using frame_trans frame_linked frame_delay
  · simpa only [List.append_nil] using frame_trans frame_linked frame_jump

theorem branched_pr : (branched i s f).pr = f.link.getD s.pr := by
  rw [branched]
  split
  · rw [State.delay_pr, linked_pr]
  · rw [State.jump_pr, linked_pr]

end

/-- Settles O36: each branch leaves the state its form names, which is a jump or a pending one. -/
theorem branchResults : Obligations.BranchResults := by
  intro i s f h hs
  refine ⟨branched i s f, exec_branch h hs, fun hd => ?_, fun hd => ?_, branched_pr, frame_branched⟩
  · rw [branched_of_not_delayed hd]
    exact ⟨State.jump_pc .., State.jump_pending ..⟩
  · rw [branched_of_delayed hd, State.delay_pc, State.delay_pending, linked_pc, linked_md]
    exact ⟨rfl, rfl⟩

end Sys2Proof.Machine
end

section
/-! PROOF. The control and system registers: read into a general register, written from one or from memory, SR under its
mask and the inactive bank apart from the named one (44_system.md R430, R432, R433, R440, R441, R444 to R447). -/

namespace Sys2Proof.Machine

open Sys2Proof.Safety

section
variable {s : State} {i : Instr} {rm rn : Reg} {b : BReg} {v : Word} {x : Special}

/-- Where mode and FPU allow it, each STC and STS writes the register it reads to its destination. -/
theorem exec_storeControl (hd : storeControlDest i = some rn) (hv : controlRead s i = some v) (hm : ModeAllows i s)
    (hfpu : fpuInstr i = true → FpuOn s) : exec i s = .next ((s.setReg rn v).advance i.size) := by
  cases i with
  | stcGbr | stsMach | stsMacl | stsPr =>
    cases hd
    cases hv
    rfl
  | stcSr | stcVbr | stcSsr | stcSpc | stcSgr | stcDbr | stcBank =>
    cases hd
    cases hv
    exact privileged_of_md (hm rfl)
  | stsFpul | stsFpscr =>
    cases hd
    cases hv
    exact fpuGated_of_on (hfpu rfl).1 (hfpu rfl).2
  | _ => cases hd

/-- Where mode and FPU allow it, each LDC and LDS of a special register writes its source there. -/
theorem exec_loadControl (hs : loadControlSource i = some rm) (hx : controlOf i = some x) (hm : ModeAllows i s)
    (hfpu : fpuInstr i = true → FpuOn s) : exec i s = .next ((s.setSpecial x (s.reg rm)).advance i.size) := by
  cases i with
  | ldcGbr | ldsMach | ldsMacl | ldsPr =>
    cases hs
    cases hx
    rfl
  | ldcVbr | ldcSsr | ldcSpc | ldcSgr | ldcDbr =>
    cases hs
    cases hx
    exact privileged_of_md (hm rfl)
  | ldsFpul | ldsFpscr =>
    cases hs
    cases hx
    exact fpuGated_of_on (hfpu rfl).1 (hfpu rfl).2
  | _ => cases hs

/-- LDC of SR writes SR, masked, and nothing else (44_system.md R444; 10_state.md R31). -/
theorem loadSr_result (hm : s.md = true) :
    ∃ t, exec (.ldcSr rm) s = .next t ∧ t.sr = s.reg rm &&& 0x700083F3 ∧ Completed (.ldcSr rm) s t ∧
      Frame s { t with sr := s.sr } [] [] [] [] [] :=
  ⟨_, privileged_of_md hm, rfl, completed_advance rfl rfl, frame_advance (s := s)⟩

/-- LDC of a bank register writes that register of the inactive bank and nothing else (44_system.md R445;
10_state.md R23). -/
theorem loadBank_result (hm : s.md = true) :
    ∃ t, exec (.ldcBank rm b) s = .next t ∧ t.otherBank b = s.reg rm ∧
      (∀ c, c ≠ b → t.otherBank c = s.otherBank c) ∧ (∀ q, t.reg q = s.reg q) ∧ Completed (.ldcBank rm b) s t ∧
      Frame s { t with bankA := s.bankA, bankB := s.bankB } [] [] [] [] [] := by
  refine ⟨_, privileged_of_md hm, ?_, fun c hc => ?_, fun q => ?_, completed_advance rfl rfl, frame_advance⟩
  · rw [frame_advance.bank, State.otherBank_setOtherBank, if_pos rfl]
  · rw [frame_advance.bank, State.otherBank_setOtherBank, if_neg hc]
  · rw [State.reg_advance, State.reg_setOtherBank]

end

/-- Settles O44: each is a write of one general register. -/
theorem controlRegisterReads : Obligations.ControlRegisterReads :=
  fun _ _ _ _ hd hv hm hfpu => completes_of_setReg (exec_storeControl hd hv hm hfpu)

/-- Settles O45: each is a write of one special register, after the pointer step for the forms that load from memory. -/
theorem controlRegisterWrites : Obligations.ControlRegisterWrites := by
  intro i s rm x hx hm hfpu
  refine ⟨fun hs => ?_, fun hp pa hreach => ?_⟩
  · refine ⟨_, exec_loadControl hs hx hm hfpu, ?_, completed_advance rfl rfl, frame_then_advance frame_setSpecial⟩
    rw [frame_advance.special x List.not_mem_nil, special_setSpecial, if_pos rfl]
  · obtain ⟨u, hr⟩ := hreach
    obtain ⟨v, m, t, hfinds, hexec, hdone, hspecial, hpointer, hframe⟩ := pop_result hp hx hm hfpu hr
    rw [(finds_memory hfinds).1] at hspecial
    exact ⟨t, hexec, hspecial, hpointer, hdone, frame_after_find hfinds hframe⟩

/-- Settles O46: from a register by what the two updates leave, from memory by what the load found. -/
theorem statusAndBankWrites : Obligations.StatusAndBankWrites := by
  intro rm b s hm
  refine ⟨loadSr_result hm, loadBank_result hm, fun pa hreach => ?_⟩
  obtain ⟨u, hr⟩ := hreach
  constructor
  · obtain ⟨v, m, t, hfinds, hexec, hdone, hsr, hpointer, hframe⟩ := popSr_result hm hr
    rw [(finds_memory hfinds).1] at hsr
    exact ⟨t, hexec, hsr, hpointer, hdone, frame_after_find hfinds hframe⟩
  · obtain ⟨v, m, t, hfinds, hexec, hdone, hbank, hothers, hpointer, hregs, hframe⟩ := popBank_result (b := b) hm hr
    rw [(finds_memory hfinds).1] at hbank
    exact ⟨t, hexec, hbank, hothers, hpointer, hregs, hdone, frame_after_find hfinds hframe⟩

end Sys2Proof.Machine
end

section
/-! PROOF. NOTT, NOP, LDTLB and SLEEP, the return from an exception, and the instructions that take one
(44_system.md R453, R456, R462, R466, R468, R470, R472; 60_exceptions.md R610 to R612, R618). -/

namespace Sys2Proof.Machine

open Sys2Proof.Safety

section
variable {s t : State} {r : Reg} {e : Exc} {imm : BitVec 8}

/-! ### Return from an exception -/

/-- The registers from 8 up are the same in both banks (10_state.md R21). -/
theorem reg_of_high (hr : 8 ≤ r.val) (h : t.high = s.high) : t.reg r = s.reg r := by
  simp only [State.reg, if_pos hr, h]

/-- SR apart, the return is R15 written from SGR and a delayed branch to SPC (44_system.md R470). -/
theorem returnFromException_with_sr :
    { returnFromException s with sr := s.sr } = (s.setReg 15 s.sgr).delay 2 s.spc := rfl

theorem reg_returnFromException : (returnFromException s).reg 15 = s.sgr :=
  (reg_of_high (s := s.setReg 15 s.sgr) (by decide) rfl).trans (State.reg_setReg_same ..)

/-! ### Trap entry -/

/-- What trap entry leaves, whatever the exception (60_exceptions.md R610 to R612). -/
theorem trapEntered_enterException :
    TrapEntered s (enterException e s) (e.returnAddress s) (s.vbr + e.vector) where
  spc := rfl
  ssr := rfl
  sgr := rfl
  mode := by
    simp only [State.md, State.rb, State.bl, enterException_sr, getLsbD_trapSr, Bool.or_true, true_or, or_true,
      decide_true, and_self]
  sr n hbl hrb hmd := by
    simp only [enterException_sr, getLsbD_trapSr, hbl, hrb, hmd, or_self, decide_false, Bool.or_false]
  pc := rfl
  pending := rfl
  registers := ⟨rfl, rfl, rfl, rfl, rfl⟩
  specials x hx := by
    cases x with
    | spc | ssr | sgr | tea | traevt | expevt | intevt => exact absurd (by decide) hx
    | _ => rfl
  memory := ⟨rfl, rfl, rfl⟩

/-- In a delay slot the branch is what an exception returns to (60_exceptions.md R612). -/
theorem returnAddress_of_pending {p : Pending} (h : s.pending = some p) : e.returnAddress s = p.branchPc := by
  simp only [Exc.returnAddress, h]

/-- TRAPA returns past itself (60_exceptions.md R612). -/
theorem returnAddress_trap (h : s.pending = none) : (Exc.trap imm).returnAddress s = s.pc + 2 := by
  simp only [Exc.returnAddress, h]

/-- Outside a delay slot BRK returns to itself (60_exceptions.md R612). -/
theorem returnAddress_uBrk (h : s.pending = none) : Exc.uBrk.returnAddress s = s.pc := by
  simp only [Exc.returnAddress, h]

/-- Bits 9:2 of TRAEVT are the immediate of TRAPA (44_system.md R472). -/
theorem toNat_traevtAfter_trap {old : Word} : ((Exc.trap imm).traevtAfter old).toNat = imm.toNat * 4 := by
  have := imm.isLt
  rw [Exc.traevtAfter, BitVec.toNat_shiftLeft, BitVec.toNat_setWidth, Nat.shiftLeft_eq]
  omega

end

/-- Settles O47: NOTT writes T; the others only pass, SLEEP with the core asleep. -/
theorem flagAndIdleInstructions : Obligations.FlagAndIdleInstructions := by
  intro s imm
  refine ⟨⟨_, rfl, ?_, completed_advance rfl rfl, frame_then_advance frame_setT⟩,
    ⟨_, rfl, completed_advance rfl rfl, frame_advance⟩, fun hm => ⟨?_, ?_⟩⟩
  · exact State.t_setT ..
  · exact ⟨_, privileged_of_md hm, completed_advance rfl rfl, frame_advance⟩
  · have hpassed : Completed .sleep s (s.advance Instr.sleep.size) := completed_advance rfl rfl
    exact ⟨_, privileged_of_md hm, rfl, ⟨hpassed.pc, hpassed.pending⟩, frame_advance⟩

/-- Settles O48: the check for a delay slot and that of the mode passed, RTE is R15 written and a delayed branch, under
the SR of SSR. -/
theorem returnFromException_restores : Obligations.ReturnFromException := by
  intro s hm hslot
  refine ⟨returnFromException s, (notInSlot_of_none hslot).trans (privileged_of_md hm), rfl, reg_returnFromException,
    rfl, ?_, ?_⟩
  · rw [returnFromException_pending, hm]
  · rw [returnFromException_with_sr]
    exact frame_trans frame_setReg frame_delay

/-- Settles O49: with SR.BL = 0 each is trap entry for its exception. -/
theorem trapInstructions : Obligations.TrapInstructions := by
  intro s imm hbl
  refine ⟨fun hslot => ?_, ?_⟩
  · have hentered := trapEntered_enterException (s := s) (e := .trap imm)
    rw [returnAddress_trap hslot] at hentered
    exact ⟨_, (notInSlot_of_none hslot).trans (raise_of_not_blocked hbl), hentered, rfl,
      toNat_traevtAfter_trap (old := s.traevt), rfl, rfl⟩
  · have hentered := trapEntered_enterException (s := s) (e := .uBrk)
    refine ⟨_, raise_of_not_blocked hbl, ?_, rfl, rfl, rfl, rfl⟩
    cases hslot : s.pending with
    | none =>
      rw [returnAddress_uBrk hslot] at hentered
      exact hentered
    | some p =>
      rw [returnAddress_of_pending hslot] at hentered
      exact hentered

end Sys2Proof.Machine
end

section
/-! PROOF. The FPU switched off or absent: every FPU instruction is FPUDIS, or SLOTFPUDIS in a delay slot
(45_fpu.md R501, R502; 60_exceptions.md R614). -/

namespace Sys2Proof.Machine

open Sys2Proof.Safety

section
variable {s : State} {k : Res} {i : Instr}

/-- What an FPU instruction answers without a usable FPU. -/
def fpuDisabled (s : State) : Res := raise (if s.pending = none then .fpuDis else .slotFpuDis) s

theorem fpuGated_of_off (h : ¬ FpuOn s) : fpuGated s k = fpuDisabled s := by
  have hoff : (s.fd || s.cfg.fpuProfile == .none) = true := by
    rw [Bool.or_eq_true, beq_iff_eq]
    by_contra hne
    rw [not_or, Bool.not_eq_true] at hne
    exact h hne
  rw [fpuGated, if_pos hoff, State.inSlot, fpuDisabled]
  cases s.pending <;> rfl

theorem fpuBanked_of_off (h : ¬ FpuOn s) : fpuBanked s k = fpuDisabled s := fpuGated_of_off h

/-- The gate comes before anything but the check for a delay slot. -/
theorem exec_fpu_off (hi : fpuInstr i = true) (hs : Startable i s) (h : ¬ FpuOn s) : exec i s = fpuDisabled s := by
  cases i with
  -- Forms that touch no floating-point cell.
  | stsFpul | stsFpscr | stslFpul | stslFpscr | ldsFpul | ldsFpscr | ldslFpul | ldslFpscr | ldhf16 | sthf16 | psetmd
  | fschg | fpchg | frchg => exact fpuGated_of_off h
  | ldhf16Imm | ldif16 => exact (notInSlot_of_none (hs rfl)).trans (fpuGated_of_off h)
  -- Forms under the bank that FPSCR.FR selects.
  | fadd | fsub | fmul | fdiv | fcmpEq | fcmpGt | fmac | fmov | fneg | fabs | fsqrt | fldi0 | fldi1 | float | ftrc
  | fsts | flds | fcnvsd | fcnvds | fmovLoadR0Idx | fmovStoreR0Idx | fmovLoadInd | fmovLoadPostInc | fmovStoreInd
  | fmovStorePreDec => exact fpuBanked_of_off h
  | fadd3 | fsub3 | fmul3 | fdiv3 | fmovStorePcR0 | fmovLoadPcR0 | fmovStoreDisp8 | fmovLoadDisp8 | fmovLoadIdx
  | fmovStoreIdx => exact (notInSlot_of_none (hs rfl)).trans (fpuBanked_of_off h)
  | _ => cases hi

end

/-- Settles O14: the gate that every FPU instruction passes first raises. -/
theorem fpuDisabledTraps : Obligations.FpuDisabledTraps :=
  fun _ _ hi hs hoff hbl => (exec_fpu_off hi hs hoff).trans (raise_of_not_blocked hbl)

end Sys2Proof.Machine
end

section
/-! PROOF. The floating-point registers written: a cell, a pair, the register that FPSCR.PR names, FPUL and FPSCR; the
moves, signs, constants and mode changes (45_fpu.md R503, R504, R516, R517, R521, R530, R531, R534, R535, R538, R540,
R542 to R544). -/

namespace Sys2Proof.Machine

open Sys2Proof.Safety

/-- An arithmetic result written, by FPSCR.PR to a pair or to a cell (45_fpu.md R504). -/
def State.setFp (s : State) (r : FReg) (v : Word) (d : DWord) : State := if s.prec then s.setDr r d else s.setFr r v

section
variable {s t u : State} {i : Instr} {r rm rn : FReg} {v n : Word} {d : DWord} {k : State → Res}
  {regs : List Reg} {bits : List Nat} {xs : List Special} {cells : List (Bool × FReg)} {bytes : List Nat}

/-! ### What is written -/

theorem frame_then_onlyDrawn (h : Frame s t regs bits xs cells bytes) (hu : OnlyDrawn t u) :
    Frame s u regs bits xs cells bytes := by
  simpa only [List.append_nil] using frame_trans h hu.frame

theorem onlyDrawn_drawn : OnlyDrawn s s.drawn := ⟨s.free + 1, rfl⟩

theorem KeepsCore.fr (h : KeepsCore s t) : t.fr r = s.fr r := by simp only [State.fr, h.frBit, h.fa, h.fb]

theorem KeepsCore.dr (h : KeepsCore s t) : t.dr r = s.dr r := by simp only [State.dr, h.pairInB, h.fa, h.fb]

theorem State.fr_advance : (s.advance n).fr r = s.fr r := rfl

theorem State.dr_advance : (s.advance n).dr r = s.dr r := rfl

theorem prec_of_frame (h : Frame s t regs bits [] cells bytes) : t.prec = s.prec :=
  congrArg (BitVec.getLsbD · 19) (h.special .fpscr List.not_mem_nil)

/-- One cell written, and at most a draw made. -/
theorem completes_of_setFr (h : exec i s = .next (u.advance i.size)) (hu : OnlyDrawn (s.setFr r v) u) :
    ∃ t, exec i s = .next t ∧ t.fr r = v ∧ Completed i s t ∧ Frame s t [] [] [] [(s.frBit, r)] [] := by
  have hcore := hu.keepsCore
  refine ⟨_, h, ?_, completed_advance hcore.pc hcore.pending,
    frame_then_advance (frame_then_onlyDrawn frame_setFr hu)⟩
  rw [State.fr_advance, hcore.fr, State.fr_setFr, if_pos rfl]

/-- One pair written, and at most a draw made. -/
theorem completes_of_setDr (h : exec i s = .next (u.advance i.size)) (hu : OnlyDrawn (s.setDr r d) u) :
    ∃ t, exec i s = .next t ∧ t.dr r = d ∧ Completed i s t ∧ Frame s t [] [] [] (pairCells s r) [] := by
  have hcore := hu.keepsCore
  refine ⟨_, h, ?_, completed_advance hcore.pc hcore.pending,
    frame_then_advance (frame_then_onlyDrawn frame_setDr hu)⟩
  rw [State.dr_advance, hcore.dr, State.dr_setDr_same]

/-- FPUL written, and at most a draw made. -/
theorem completes_of_setFpul (h : exec i s = .next (u.advance i.size)) (hu : OnlyDrawn (s.setFpul v) u) :
    ∃ t, exec i s = .next t ∧ t.fpul = v ∧ Completed i s t ∧ Frame s t [] [] [.fpul] [] [] := by
  have hframe : Frame s (s.setFpul v) [] [] [.fpul] [] [] := frame_setSpecial (x := .fpul)
  have hcore := hu.keepsCore
  refine ⟨_, h, ?_, completed_advance hcore.pc hcore.pending,
    frame_then_advance (frame_then_onlyDrawn hframe hu)⟩
  obtain ⟨m, rfl⟩ := hu
  rfl

/-- FPSCR written. -/
theorem completes_of_setFpscr (h : exec i s = .next ((s.setFpscr v).advance i.size)) :
    ∃ t, exec i s = .next t ∧ t.fpscr = v ∧ Completed i s t ∧ Frame s t [] [] [.fpscr] [] [] :=
  ⟨_, h, rfl, completed_advance rfl rfl, frame_then_advance (frame_setSpecial (x := .fpscr))⟩

/-- An arithmetic result written, and at most a draw made. -/
theorem completes_of_setFp (h : exec i s = .next (u.advance i.size)) (hu : OnlyDrawn (s.setFp r v d) u) :
    ∃ t, exec i s = .next t ∧ (if s.prec then t.dr r = d else t.fr r = v) ∧ Completed i s t ∧
      Frame s t [] [] [] (fpCells s r) [] := by
  unfold State.setFp at hu
  unfold fpCells
  split at hu
  · next hp =>
    simp only [hp, if_true]
    exact completes_of_setDr h hu
  · next hp =>
    simp only [hp]
    exact completes_of_setFr h hu

/-! ### Pairs that exist -/

theorem pairPresent_of_operandsExist {rs : List FReg} {k : Res} (h : OperandsExist s rs) (hp : s.prec = true)
    (hr : r ∈ rs) : pairPresent s r k = k := pairPresent_of_exists (h hp r hr)

/-- The shape of the instructions that write one register under FPSCR.PR: both forms are one write. -/
theorem byPrecision_eq (h : OperandsExist s [r]) :
    (if s.prec then pairPresent s r (k (s.setDr r d)) else k (s.setFr r v)) = k (s.setFp r v d) := by
  unfold State.setFp
  split
  · next hp => exact pairPresent_of_operandsExist h hp (List.mem_singleton.mpr rfl)
  · rfl

/-! ### Signs and constants -/

theorem append_xor_halves (d m : DWord) : (hiWord d ^^^ hiWord m) ++ (loWord d ^^^ loWord m) = d ^^^ m := by
  rw [← BitVec.xor_append, hiWord_append_loWord, hiWord_append_loWord]

theorem append_and_halves (d m : DWord) : (hiWord d &&& hiWord m) ++ (loWord d &&& loWord m) = d &&& m := by
  rw [← BitVec.and_append, hiWord_append_loWord, hiWord_append_loWord]

/-- The sign of a double is that of its high half (45_fpu.md R516). -/
theorem negate_high (d : DWord) : (hiWord d ^^^ 0x80000000) ++ loWord d = d ^^^ 0x8000000000000000 := by
  have hlow : loWord d ^^^ loWord 0x8000000000000000 = loWord d := BitVec.xor_zero
  have h := append_xor_halves d 0x8000000000000000
  rwa [hlow] at h

/-- So it is cleared there (45_fpu.md R517). -/
theorem clear_high (d : DWord) : (hiWord d &&& 0x7FFFFFFF) ++ loWord d = d &&& 0x7FFFFFFFFFFFFFFF := by
  have hlow : loWord d &&& loWord 0x7FFFFFFFFFFFFFFF = loWord d := BitVec.and_allOnes
  have h := append_and_halves d 0x7FFFFFFFFFFFFFFF
  rwa [hlow] at h

theorem onSign_eq {g : Word → Word} (hround : RoundingSet s) (hr : OperandsExist s [r])
    (hd : g (hiWord (s.dr r)) ++ loWord (s.dr r) = d) : onSign g r s = done16 (s.setFp r (g (s.fr r)) d) := by
  subst hd
  rw [onSign, roundingDefined_of_set hround]
  exact byPrecision_eq hr

theorem loadConstant_eq (hround : RoundingSet s) (hr : OperandsExist s [r]) :
    loadConstant v d r s = done16 (s.setFp r v d) := by
  rw [loadConstant, roundingDefined_of_set hround]
  exact byPrecision_eq hr

/-- FNEG, FABS, FLDI0 and FLDI1 write the value of their rule. -/
theorem exec_fpBit (h : fpBitForm s i = some (r, v, d)) (hready : FpuReady s) (hround : RoundingSet s)
    (hr : OperandsExist s [r]) : exec i s = .next ((s.setFp r v d).advance i.size) := by
  cases i with
  | fneg =>
    cases h
    exact (fpuBanked_of_fpuReady hready).trans (onSign_eq hround hr (negate_high _))
  | fabs =>
    cases h
    exact (fpuBanked_of_fpuReady hready).trans (onSign_eq hround hr (clear_high _))
  | fldi0 | fldi1 =>
    cases h
    exact (fpuBanked_of_fpuReady hready).trans (loadConstant_eq hround hr)
  | _ => cases h

/-! ### Moves -/

theorem exec_fmov_cell (hready : FpuReady s) (hsz : s.sz = false) :
    exec (.fmov rm rn) s = done16 (s.setFr rn (s.fr rm)) :=
  (fpuBanked_of_fpuReady hready).trans (if_neg (Bool.eq_false_iff.mp hsz))

theorem exec_fmov_pair (hready : FpuReady s) (hsz : s.sz = true) (hm : PairExists s rm) (hn : PairExists s rn) :
    exec (.fmov rm rn) s = done16 (s.setDr rn (s.dr rm)) :=
  (fpuBanked_of_fpuReady hready).trans
    ((if_pos hsz).trans ((pairPresent_of_exists hm).trans (pairPresent_of_exists hn)))

/-- LDIF16 sets the high half of FPUL (45_fpu.md R538). -/
theorem toNat_shiftedHalf (h : Half) : (zext h <<< 16).toNat = h.toNat * 2 ^ 16 := by
  have := h.isLt
  rw [BitVec.toNat_shiftLeft, zext, BitVec.toNat_setWidth, Nat.shiftLeft_eq]
  omega

/-! ### Mode changes -/

theorem fpuGated_of_fpuOn {k : Res} (h : FpuOn s) : fpuGated s k = k := fpuGated_of_on h.1 h.2

theorem getLsbD_bit (b : Bool) (j : Nat) : (bit b).getLsbD j = (decide (j = 0) && b) := by
  cases b with
  | false => simp [bit]
  | true => simp [bit, BitVec.getLsbD_one]

/-- A bit moved to its place. -/
theorem getLsbD_bit_shiftLeft {b : Bool} {j m : Nat} (hm : m < 32) :
    (bit b <<< j).getLsbD m = (decide (m = j) && b) := by
  have hplace : (m < j → m ≠ j) ∧ (¬ m < j → (m - j = 0 ↔ m = j)) := by omega
  rw [BitVec.getLsbD_shiftLeft, getLsbD_bit, decide_eq_true hm, Bool.true_and]
  by_cases hj : m < j
  · simp [hj, hplace.1 hj]
  · simp [hj, hplace.2 hj]

/-- One bit turned over (45_fpu.md R542 to R544). -/
theorem getLsbD_flip {w : Word} {j m : Nat} (hm : m < 32) :
    (w ^^^ (bit true <<< j)).getLsbD m = if m = j then !w.getLsbD j else w.getLsbD m := by
  rw [BitVec.getLsbD_xor, getLsbD_bit_shiftLeft hm]
  split
  · next h => simp [h]
  · next h => simp [h]

/-- The bits of FPSCR that PSETMD keeps (45_fpu.md R540). -/
theorem getLsbD_modeMask {w : Word} {m : Nat} (hm : m < 32) :
    (w &&& 0xFFC7FFFF).getLsbD m = (w.getLsbD m && decide (m ≠ 19 ∧ m ≠ 20 ∧ m ≠ 21)) := by
  have hmask : (0xFFC7FFFF#32).getLsbD m = decide (m ≠ 19 ∧ m ≠ 20 ∧ m ≠ 21) := by
    interval_cases m <;> rfl
  rw [BitVec.getLsbD_and, ← hmask]
  rfl

theorem getLsbD_fpModeOf {imm : BitVec 4} {old : Word} {m : Nat} (hm : m < 32) :
    (fpModeOf imm old).getLsbD m =
      if m = 20 then imm.getLsbD 3 else if m = 19 then imm.getLsbD 2 else if m = 21 then imm.getLsbD 0
      else !imm.getLsbD 1 && old.getLsbD m := by
  have hkept : (if imm.getLsbD 1 then 0 else old &&& 0xFFC7FFFF).getLsbD m =
      (!imm.getLsbD 1 && (old.getLsbD m && decide (m ≠ 19 ∧ m ≠ 20 ∧ m ≠ 21))) := by
    cases imm.getLsbD 1 with
    | false => exact getLsbD_modeMask hm
    | true => exact BitVec.getLsbD_zero
  simp only [fpModeOf, BitVec.getLsbD_or, hkept, getLsbD_bit_shiftLeft hm]
  by_cases h20 : m = 20
  · simp [h20]
  · by_cases h19 : m = 19
    · simp [h19]
    · by_cases h21 : m = 21
      · simp [h21]
      · simp [h20, h19, h21]

/-- The mode-changing instructions write FPSCR with the bits of their rule. -/
theorem exec_fpMode (hi : (fpModeBit s i 0).isSome = true) (hon : FpuOn s) (hb : BankSelectable s i) :
    ∃ v, exec i s = .next ((s.setFpscr v).advance i.size) ∧ ∀ m < 32, fpModeBit s i m = some (v.getLsbD m) := by
  cases i with
  | psetmd imm =>
    have hbank : ¬ (s.cfg.fpuProfile = .basic ∧ imm.getLsbD 0 = true) := fun ⟨hbasic, hset⟩ =>
      Bool.false_ne_true (((hb hbasic).2 imm rfl).symm.trans hset)
    exact ⟨_, (fpuGated_of_fpuOn hon).trans (if_neg hbank), fun m hm => congrArg some (getLsbD_fpModeOf hm).symm⟩
  | frchg =>
    have hbank : ¬ s.cfg.fpuProfile = .basic := fun hbasic => (hb hbasic).1 rfl
    exact ⟨_, (fpuGated_of_fpuOn hon).trans (if_neg hbank), fun m hm => congrArg some (getLsbD_flip hm).symm⟩
  | fschg => exact ⟨_, fpuGated_of_fpuOn hon, fun m hm => congrArg some (getLsbD_flip hm).symm⟩
  | fpchg => exact ⟨_, fpuGated_of_fpuOn hon, fun m hm => congrArg some (getLsbD_flip hm).symm⟩
  | _ => cases hi

end

/-- Settles O53: each writes one register, under FPSCR.PR. -/
theorem fpSignAndConstantResults : Obligations.FpSignAndConstantResults :=
  fun _ _ _ _ _ h hready hround hr => completes_of_setFp (exec_fpBit h hready hround hr) OnlyDrawn.refl

/-- Settles O56: each writes one cell, one pair or FPUL. -/
theorem fpMoveResults : Obligations.FpMoveResults := by
  intro m n imm s hready
  refine ⟨fun hsz => completes_of_setFr (exec_fmov_cell hready hsz) OnlyDrawn.refl,
    fun hsz hm hn => completes_of_setDr (exec_fmov_pair hready hsz hm hn) OnlyDrawn.refl,
    completes_of_setFr (fpuBanked_of_fpuReady hready) OnlyDrawn.refl,
    completes_of_setFpul (fpuBanked_of_fpuReady hready) OnlyDrawn.refl, fun hslot => ?_⟩
  obtain ⟨t, hexec, hfpul, hrest⟩ := completes_of_setFpul (i := .ldif16 imm)
    ((notInSlot_of_none hslot).trans (fpuGated_of_fpuOn hready.1)) OnlyDrawn.refl
  exact ⟨t, hexec, hfpul ▸ toNat_shiftedHalf imm, hrest⟩

/-- Settles O60: each writes FPSCR, with the bits of its rule. -/
theorem fpModeResults : Obligations.FpModeResults := by
  intro i s hi hon hb
  obtain ⟨v, hwrite, hbits⟩ := exec_fpMode hi hon hb
  obtain ⟨t, hexec, rfl, hrest⟩ := completes_of_setFpscr hwrite
  exact ⟨t, hexec, hbits, hrest⟩

end Sys2Proof.Machine
end

section
/-! PROOF. FMOV.S where its accesses reach memory, of a cell and of a pair, whose two words lie apart
(45_fpu.md R522, R523, R526 to R529; 20_memory.md R74, R81, R83, R105). -/

namespace Sys2Proof.Machine

open Sys2Proof.Safety

section
variable {s t u v m n : State} {k : AccessKind} {md : Bool} {w : Width} {va a b : Word} {pa pb : Nat} {d : DWord}
  {regs : List Reg} {bits : List Nat} {xs : List Special} {cells : List (Bool × FReg)} {bytes : List Nat}

/-! ### Where the two words of a pair lie -/

/-- Translated or not, an access is aligned and keeps its offset in the page (20_memory.md R74, R83, R105). -/
theorem translate_keeps_offset {x : Word} (h : translate k md w va s = .ok x u) :
    va.toNat % w.bytes = 0 ∧ x.toNat % 4096 = va.toNat % 4096 := by
  unfold translate at h
  split at h; · cases h
  split at h; · cases h
  next haligned =>
  rw [Bool.not_eq_true, Bool.not_eq_false', aligned_eq_true] at haligned
  refine ⟨haligned, ?_⟩
  split at h; · cases h
  split at h
  · split at h; · cases h
    split at h
    · cases h
    · cases h
    · next pte _ =>
      split at h
      · cases h
      · cases h
        have := toNat_pageAddress pte va
        omega
  · cases h
    have := toNat_untranslated va
    omega

theorem resolve_keeps_offset (h : resolve k md w va s = .ok (.memory pa) u) :
    va.toNat % w.bytes = 0 ∧ pa % 4096 = va.toNat % 4096 := by
  obtain ⟨x, v, hlocate, hplace⟩ := Access.bind_eq_ok.mp h
  have hoffset := translate_keeps_offset (locate_eq_ok.mp hlocate).1
  rcases (placeOf_eq_ok hplace).2 with ⟨r, hr, -⟩ | ⟨hp, -⟩ | ⟨hp, -⟩
  · cases hr
  · cases hp
    exact hoffset
  · cases hp

/-- The two words of a pair have no byte in common, wherever translation puts them. -/
theorem pair_words_apart (h : resolve k md .long va s = .ok (.memory pa) u)
    (h' : resolve k md .long (va + 4) u = .ok (.memory pb) v) :
    ∀ c ∈ accessBytes .long pa, c ∉ accessBytes .long pb := by
  obtain ⟨haligned, hpa⟩ := resolve_keeps_offset h
  obtain ⟨-, hpb⟩ := resolve_keeps_offset h'
  have hnext : (va + 4).toNat = (va.toNat + 4) % 2 ^ 32 := BitVec.toNat_add va 4
  intro c hc hc'
  rw [mem_accessBytes] at hc hc'
  simp only [Width.bytes] at haligned hc hc'
  omega

/-! ### Values in memory -/

/-- A value none of whose bytes changes is the same after. -/
theorem valueAt_of_apart (h : Frame s t regs bits xs cells bytes) (hapart : ∀ c ∈ accessBytes w pa, c ∉ bytes) :
    valueAt t pa w = valueAt s pa w := by
  have hmem : ∀ c ∈ accessBytes w pa, memGet t.mem c = memGet s.mem c := fun c hc => h.mem c (hapart c hc)
  rw [valueAt, valueAt, h.cfg]
  cases w <;> simp only [accessBytes, List.forall_mem_cons, List.not_mem_nil, false_imp_iff, implies_true, and_true]
      at hmem <;> simp only [loadBytes, hmem]

/-- The words a pair is stored as are the pair (45_fpu.md R522). -/
theorem pairInMemory_words (s : State) (d : DWord) : pairInMemory s (pairFirst s d) (pairSecond s d) = d := by
  rw [← pairOfWords_eq KeepsCore.refl, pairOfWords, pairFirst, pairSecond]
  cases pairHighFirst s <;> exact hiWord_append_loWord d

/-- Two words stored apart, and then nothing more of memory: both are there, and no byte outside them has changed. -/
theorem two_stores_then_frame (h : Takes .long (.memory pa) a s m) (h' : Takes .long (.memory pb) b m n)
    (hapart : ∀ c ∈ accessBytes .long pa, c ∉ accessBytes .long pb) (hframe : Frame n t regs bits xs cells []) :
    valueAt t pa .long = a ∧ valueAt t pb .long = b ∧
      Frame s t regs bits xs cells (accessBytes .long pa ++ accessBytes .long pb) := by
  obtain ⟨hfirst, hfirstFrame⟩ := takes_memory h
  obtain ⟨hsecond, hsecondFrame⟩ := store_then_frame h' hframe
  exact ⟨(valueAt_of_apart hsecondFrame hapart).trans hfirst, hsecond, frame_trans hfirstFrame hsecondFrame⟩

end

/-- Settles O57: the loads that answer what their places hold, where the places are memory. -/
theorem fpLoadResults : Obligations.FpLoadResults := by
  intro i s f pa pb hf hs hready hd
  refine ⟨fun hsz ⟨u, hr⟩ => ?_, fun hsz hpair ⟨u, v, hr, hr'⟩ => ?_⟩
  · obtain ⟨w, m, t, hfinds, hexec, hcell, hstep, hdone, hframe⟩ := fpLoad_cell_result hf hs hd hready hr hsz
    rw [(finds_memory hfinds).1] at hcell
    exact ⟨t, hexec, hcell, hstep, hdone, frame_after_find hfinds hframe⟩
  · obtain ⟨a, b, m, n, t, hfinds, hfinds', hexec, hvalue, hstep, hdone, hframe⟩ :=
      fpLoad_pair_result hf hs hd hready hr hsz hpair hr'
    obtain ⟨hfirst, hframe'⟩ := finds_memory hfinds
    rw [hfirst, (finds_memory hfinds').1, valueAt_of_frame hframe'] at hvalue
    exact ⟨t, hexec, hvalue, hstep, hdone, frame_after_find hfinds (frame_after_find hfinds' hframe)⟩

/-- Settles O58: the stores to the places reached, where the places are memory; those of a pair do not overlap. -/
theorem fpStoreResults : Obligations.FpStoreResults := by
  intro i s f pa pb hf hs hready hd
  refine ⟨fun hsz ⟨u, hr⟩ => ?_, fun hsz hpair ⟨u, v, hr, hr'⟩ => ?_⟩
  · obtain ⟨m, t, htakes, hexec, hstep, hdone, hframe⟩ :=
      fpStore_cell_result hf hs hd hready hr hsz placeAccepts_memory
    obtain ⟨hvalue, hframe⟩ := store_then_frame htakes hframe
    exact ⟨t, hexec, hvalue, hstep, hdone, hframe⟩
  · obtain ⟨m, n, t, htakes, htakes', hexec, hstep, hdone, hframe⟩ :=
      fpStore_pair_result hf hs hd hready hr hsz hpair hr' (pairInMemory_words s _) placeAccepts_memory
        placeAccepts_memory
    obtain ⟨hfirst, hsecond, hframe⟩ := two_stores_then_frame htakes htakes' (pair_words_apart hr hr') hframe
    exact ⟨t, hexec, by rw [hfirst, hsecond, pairInMemory_words], hstep, hdone, hframe⟩

end Sys2Proof.Machine
end

section
/-! PROOF. Patterns of a floating-point format: the fields of a packed pattern, and the magnitude of a pattern, which
grows with the pattern (45_fpu.md R505(a)). -/

namespace Sys2Proof.Machine

open Sys2Proof.Safety

/-- A format has at least two exponent bits and one fraction bit, as binary32 and binary64 have. -/
structure FpFormat.Proper (f : FpFormat) : Prop where
  exp : 2 ≤ f.exp
  frac : 1 ≤ f.frac

theorem FpFormat.proper_single : FpFormat.single.Proper := ⟨by decide, by decide⟩

theorem FpFormat.proper_double : FpFormat.double.Proper := ⟨by decide, by decide⟩

/-- The significand of a finite pattern. -/
def FpFormat.significand (f : FpFormat) (x : Nat) : Nat :=
  if f.expField x = 0 then f.fracField x else 2 ^ f.frac + f.fracField x

/-- The exponent of the last place of a finite pattern. -/
def FpFormat.lastPlace (f : FpFormat) (x : Nat) : Int := f.minUlp + ((max (f.expField x) 1 : Nat) : Int) - 1

section
variable {f : FpFormat} {sign : Bool} {e m x y : Nat} {u : Int}

/-! ### Fields -/

theorem FpFormat.two_pow_signAt (f : FpFormat) : 2 ^ f.signAt = 2 ^ f.exp * 2 ^ f.frac := by
  rw [FpFormat.signAt, pow_add]

theorem FpFormat.fracField_lt (f : FpFormat) (x : Nat) : f.fracField x < 2 ^ f.frac := Nat.mod_lt _ (by positivity)

theorem FpFormat.expField_le (f : FpFormat) (x : Nat) : f.expField x ≤ f.maxExp :=
  Nat.le_sub_one_of_lt (Nat.mod_lt _ (by positivity))

theorem FpFormat.Proper.two_le_maxExp (hf : f.Proper) : 2 ≤ f.maxExp := by
  have : 2 ^ 2 ≤ 2 ^ f.exp := Nat.pow_le_pow_right (by decide) hf.exp
  unfold FpFormat.maxExp
  omega

/-- Below its sign a pattern is its exponent field above its fraction. -/
theorem FpFormat.mod_signAt (f : FpFormat) (x : Nat) :
    x % 2 ^ f.signAt = f.expField x * 2 ^ f.frac + f.fracField x := by
  rw [f.two_pow_signAt, mul_comm (2 ^ f.exp), Nat.mod_mul, FpFormat.expField, FpFormat.fracField]
  ring

theorem FpFormat.lt_two_pow_exp (he : e ≤ f.maxExp) : e < 2 ^ f.exp := by
  have : 0 < 2 ^ f.exp := by positivity
  unfold FpFormat.maxExp at he
  omega

/-- A number below the sign bit, as its two fields. -/
theorem FpFormat.magnitudeBits_lt (he : e ≤ f.maxExp) (hm : m < 2 ^ f.frac) :
    e * 2 ^ f.frac + m < 2 ^ f.signAt := by
  have he := FpFormat.lt_two_pow_exp he
  rw [f.two_pow_signAt]
  nlinarith

theorem FpFormat.pack_mod_signAt (he : e ≤ f.maxExp) (hm : m < 2 ^ f.frac) :
    f.pack sign e m % 2 ^ f.signAt = e * 2 ^ f.frac + m := by
  rw [FpFormat.pack, add_assoc, Nat.mul_add_mod_of_lt (FpFormat.magnitudeBits_lt he hm)]

theorem FpFormat.fracField_pack (hm : m < 2 ^ f.frac) : f.fracField (f.pack sign e m) = m := by
  rw [FpFormat.fracField, FpFormat.pack, FpFormat.signAt, pow_add, ← mul_assoc, ← add_mul,
    Nat.mul_add_mod_of_lt hm]

theorem FpFormat.expField_pack (he : e ≤ f.maxExp) (hm : m < 2 ^ f.frac) : f.expField (f.pack sign e m) = e := by
  have h := f.mod_signAt (f.pack sign e m)
  rw [FpFormat.pack_mod_signAt he hm, FpFormat.fracField_pack hm] at h
  exact (Nat.eq_of_mul_eq_mul_right (by positivity) (Nat.add_right_cancel h)).symm

theorem FpFormat.sign_pack (he : e ≤ f.maxExp) (hm : m < 2 ^ f.frac) : f.sign (f.pack sign e m) = sign := by
  have hdiv : f.pack sign e m / 2 ^ f.signAt = sign.toNat := by
    rw [FpFormat.pack, add_assoc, mul_comm, Nat.mul_add_div (by positivity),
      Nat.div_eq_of_lt (FpFormat.magnitudeBits_lt he hm), add_zero]
  rw [FpFormat.sign, hdiv]
  cases sign <;> rfl

theorem FpFormat.pack_lt (he : e ≤ f.maxExp) (hm : m < 2 ^ f.frac) : f.pack sign e m < 2 ^ (f.signAt + 1) := by
  have hlow := FpFormat.magnitudeBits_lt he hm
  have hsign : sign.toNat * 2 ^ f.signAt ≤ 1 * 2 ^ f.signAt := Nat.mul_le_mul_right _ (Bool.toNat_le sign)
  rw [FpFormat.pack, pow_succ]
  omega

/-- The sign is no part of the other fields. -/
theorem FpFormat.expField_mod_signAt (f : FpFormat) (x : Nat) : f.expField (x % 2 ^ f.signAt) = f.expField x := by
  rw [FpFormat.expField, f.two_pow_signAt, mul_comm (2 ^ f.exp), Nat.mod_mul_right_div_self, Nat.mod_mod,
    FpFormat.expField]

theorem FpFormat.fracField_mod_signAt (f : FpFormat) (x : Nat) : f.fracField (x % 2 ^ f.signAt) = f.fracField x := by
  rw [FpFormat.fracField, f.two_pow_signAt, Nat.mod_mul_left_mod, FpFormat.fracField]

/-- The last bit of a pattern is that of its fraction. -/
theorem FpFormat.Proper.pack_mod_two (hf : f.Proper) : f.pack sign e m % 2 = m % 2 := by
  have hsign : 2 ∣ 2 ^ f.signAt := dvd_pow_self 2 (by rw [FpFormat.signAt]; have := hf.frac; omega)
  have hfrac : 2 ∣ 2 ^ f.frac := dvd_pow_self 2 (by have := hf.frac; omega)
  have hrest : 2 ∣ sign.toNat * 2 ^ f.signAt + e * 2 ^ f.frac :=
    dvd_add (Dvd.dvd.mul_left hsign _) (Dvd.dvd.mul_left hfrac _)
  rw [FpFormat.pack]
  omega

/-! ### Magnitudes -/

theorem magnitude_eq (f : FpFormat) (x : Nat) :
    magnitude f x = (f.significand x : ℝ) * (2 : ℝ) ^ f.lastPlace x := rfl

theorem magnitude_mod_signAt (f : FpFormat) (x : Nat) : magnitude f (x % 2 ^ f.signAt) = magnitude f x := by
  rw [magnitude, magnitude, f.expField_mod_signAt, f.fracField_mod_signAt]

theorem magnitude_nonneg (f : FpFormat) (x : Nat) : 0 ≤ magnitude f x := by
  rw [magnitude_eq]
  positivity

theorem FpFormat.minUlp_le_lastPlace (f : FpFormat) (x : Nat) : f.minUlp ≤ f.lastPlace x := by
  unfold FpFormat.lastPlace
  omega

theorem FpFormat.significand_lt (f : FpFormat) (x : Nat) : f.significand x < 2 ^ (f.frac + 1) := by
  have := f.fracField_lt x
  rw [FpFormat.significand, pow_succ]
  split <;> omega

/-- The powers of two between which the magnitude of a normal pattern lies; that of a denormal is below them. -/
theorem magnitude_lt_of_expField (f : FpFormat) (x : Nat) :
    magnitude f x < (2 : ℝ) ^ ((f.frac : Int) + f.minUlp + f.expField x) := by
  have hfrac := f.fracField_lt x
  rw [magnitude_eq]
  by_cases he : f.expField x = 0
  · have hsig : (f.significand x : ℝ) < (2 : ℝ) ^ f.frac := by
      rw [FpFormat.significand, if_pos he]
      exact_mod_cast hfrac
    have hplace : f.lastPlace x = f.minUlp := by rw [FpFormat.lastPlace, he]; simp
    rw [he, hplace, Nat.cast_zero, add_zero, zpow_add₀ two_ne_zero, zpow_natCast]
    gcongr
  · have hsig : (f.significand x : ℝ) < (2 : ℝ) ^ (f.frac + 1) := by exact_mod_cast f.significand_lt x
    have hplace : (f.frac : Int) + f.minUlp + f.expField x = ((f.frac + 1 : Nat) : Int) + f.lastPlace x := by
      rw [FpFormat.lastPlace, max_eq_left (by omega)]
      push_cast
      ring
    rw [hplace, zpow_add₀ two_ne_zero, zpow_natCast]
    gcongr

theorem le_magnitude_of_expField (he : 1 ≤ f.expField x) :
    (2 : ℝ) ^ ((f.frac : Int) + f.minUlp + f.expField x - 1) ≤ magnitude f x := by
  have hsig : (2 : ℝ) ^ f.frac ≤ (f.significand x : ℝ) := by
    rw [FpFormat.significand, if_neg (by omega)]
    exact_mod_cast Nat.le_add_right ..
  have hplace : (f.frac : Int) + f.minUlp + f.expField x - 1 = (f.frac : Int) + f.lastPlace x := by
    rw [FpFormat.lastPlace, max_eq_left he]
    ring
  rw [magnitude_eq, hplace, zpow_add₀ two_ne_zero, zpow_natCast]
  gcongr

/-- Under one exponent the magnitude grows with the fraction. -/
theorem magnitude_lt_of_fracField_lt (he : f.expField x = f.expField y) (hm : f.fracField x < f.fracField y) :
    magnitude f x < magnitude f y := by
  rw [magnitude, magnitude, he]
  gcongr
  split <;> omega

/-- The magnitude grows with the exponent. -/
theorem magnitude_lt_of_expField_lt (he : f.expField x < f.expField y) : magnitude f x < magnitude f y :=
  calc magnitude f x
    _ < (2 : ℝ) ^ ((f.frac : Int) + f.minUlp + f.expField x) := magnitude_lt_of_expField f x
    _ ≤ (2 : ℝ) ^ ((f.frac : Int) + f.minUlp + f.expField y - 1) := zpow_le_zpow_right₀ one_le_two (by omega)
    _ ≤ magnitude f y := le_magnitude_of_expField (by omega)

/-- Magnitudes are ordered as the patterns are below their signs. -/
theorem magnitude_lt_of_mod_lt (h : x % 2 ^ f.signAt < y % 2 ^ f.signAt) : magnitude f x < magnitude f y := by
  rw [f.mod_signAt, f.mod_signAt] at h
  have hx := f.fracField_lt x
  have hy := f.fracField_lt y
  rcases lt_trichotomy (f.expField x) (f.expField y) with he | he | he
  · exact magnitude_lt_of_expField_lt he
  · rw [he] at h
    exact magnitude_lt_of_fracField_lt he (by omega)
  · have : (f.expField y + 1) * 2 ^ f.frac ≤ f.expField x * 2 ^ f.frac := Nat.mul_le_mul_right _ he
    rw [add_mul] at this
    omega

theorem magnitude_lt_iff : magnitude f x < magnitude f y ↔ x % 2 ^ f.signAt < y % 2 ^ f.signAt := by
  refine ⟨fun h => ?_, magnitude_lt_of_mod_lt⟩
  by_contra hle
  rcases Nat.lt_or_eq_of_le (Nat.le_of_not_lt hle) with hlt | heq
  · exact absurd h (magnitude_lt_of_mod_lt hlt).not_gt
  · rw [← magnitude_mod_signAt f x, ← magnitude_mod_signAt f y, heq] at h
    exact lt_irrefl _ h

theorem magnitude_eq_iff : magnitude f x = magnitude f y ↔ x % 2 ^ f.signAt = y % 2 ^ f.signAt := by
  have hlt := magnitude_lt_iff (f := f) (x := x) (y := y)
  have hgt := magnitude_lt_iff (f := f) (x := y) (y := x)
  constructor
  · intro h
    have := mt hlt.mpr h.not_lt
    have := mt hgt.mpr h.not_gt
    omega
  · intro h
    rw [← magnitude_mod_signAt f x, h, magnitude_mod_signAt]

/-- From any place of a result on, a magnitude is a multiple of that place, or smaller than every number with the full
significand there. -/
theorem magnitude_on_grid (f : FpFormat) (x : Nat) (u : Int) :
    (∃ k : Nat, magnitude f x = k * (2 : ℝ) ^ u) ∨
      (f.lastPlace x < u ∧ magnitude f x < (2 : ℝ) ^ f.frac * (2 : ℝ) ^ u) := by
  rw [magnitude_eq]
  rcases le_or_gt u (f.lastPlace x) with hle | hlt
  · refine .inl ⟨f.significand x * 2 ^ (f.lastPlace x - u).toNat, ?_⟩
    have hplace : f.lastPlace x = ((f.lastPlace x - u).toNat : Int) + u := by omega
    rw [Nat.cast_mul, Nat.cast_pow, Nat.cast_ofNat, mul_assoc, ← zpow_natCast, ← zpow_add₀ two_ne_zero, ← hplace]
  · refine .inr ⟨hlt, ?_⟩
    have hsig : (f.significand x : ℝ) < (2 : ℝ) ^ (f.frac + 1) := by exact_mod_cast f.significand_lt x
    calc (f.significand x : ℝ) * (2 : ℝ) ^ f.lastPlace x
      _ < (2 : ℝ) ^ (f.frac + 1) * (2 : ℝ) ^ f.lastPlace x := by gcongr
      _ = (2 : ℝ) ^ f.frac * (2 : ℝ) ^ (f.lastPlace x + 1) := by rw [zpow_add_one₀ two_ne_zero]; ring
      _ ≤ (2 : ℝ) ^ f.frac * (2 : ℝ) ^ u := by
        gcongr
        · exact one_le_two
        · exact hlt

end

end Sys2Proof.Machine
end

section
/-! PROOF. The rounding of an exact magnitude: to an integer at the place of its last bit, and of that to a pattern
(45_fpu.md R505(b) to (d)). -/

namespace Sys2Proof.Machine

open Sys2Proof.Safety

/-- The integer `r` is what `q` rounds to: the one below it, or the nearest, of two the even one. -/
def RoundsToInt (toZero : Bool) (q : ℝ) (r : Nat) : Prop :=
  if toZero then (r : ℝ) ≤ q ∧ q < r + 1 else |(r : ℝ) - q| ≤ 1 / 2 ∧ (|(r : ℝ) - q| = 1 / 2 → r % 2 = 0)

/-- The place `u` suits the magnitude `x`: it has no more bits than a result keeps, and no fewer unless `u` is the least
place of the format. -/
structure SuitsPlace (f : FpFormat) (x : ℝ) (u : Int) : Prop where
  minUlp_le : f.minUlp ≤ u
  lt : x < (2 : ℝ) ^ (f.frac + 1) * (2 : ℝ) ^ u
  le : f.minUlp < u → (2 : ℝ) ^ f.frac * (2 : ℝ) ^ u ≤ x

section
variable {f : FpFormat} {toZero dn sign sticky : Bool} {sig k r : Nat} {e u : Int} {q x δ : ℝ}

/-! ### Rounding to an integer -/

theorem roundsToInt_self : RoundsToInt toZero (r : ℝ) r := by
  unfold RoundsToInt
  cases toZero <;> norm_num

/-- No integer is nearer than the one rounded to, and of two as near the even one is taken. -/
theorem RoundsToInt.nearest (h : RoundsToInt false q r) (j : Nat) :
    |(r : ℝ) - q| ≤ |(j : ℝ) - q| ∧ (|(j : ℝ) - q| = |(r : ℝ) - q| → j = r ∨ r % 2 = 0) := by
  obtain ⟨hhalf, htie⟩ : |(r : ℝ) - q| ≤ 1 / 2 ∧ (|(r : ℝ) - q| = 1 / 2 → r % 2 = 0) := h
  by_cases hjr : j = r
  · subst hjr
    exact ⟨le_rfl, fun _ => .inl rfl⟩
  · have hfar : (1 : ℝ) ≤ |(j : ℝ) - r| := by
      have : (1 : ℤ) ≤ |(j : ℤ) - r| := Int.one_le_abs (by omega)
      exact_mod_cast this
    have htriangle : |(j : ℝ) - r| ≤ |(j : ℝ) - q| + |(r : ℝ) - q| := by
      rw [abs_sub_comm (r : ℝ) q]
      exact abs_sub_le ..
    exact ⟨by linarith, fun heq => .inr (htie (by linarith))⟩

theorem RoundsToInt.lt_add_one (h : RoundsToInt toZero q r) : (r : ℝ) < q + 1 ∧ q < r + 1 := by
  cases toZero with
  | false =>
    obtain ⟨hlow, hhigh⟩ := abs_le.mp h.1
    constructor <;> linarith
  | true =>
    obtain ⟨hle, hlt⟩ : (r : ℝ) ≤ q ∧ q < r + 1 := h
    exact ⟨by linarith, hlt⟩

/-- Rounding passes no integer. -/
theorem RoundsToInt.le_of_le (h : RoundsToInt toZero q r) {j : Nat} (hj : (j : ℝ) ≤ q) : j ≤ r := by
  have hlt := h.lt_add_one.2
  have : (j : ℝ) < (r + 1 : Nat) := by push_cast; linarith
  exact Nat.le_of_lt_succ (by exact_mod_cast this)

theorem RoundsToInt.le_of_lt (h : RoundsToInt toZero q r) {j : Nat} (hj : q < j) : r ≤ j := by
  have hlt := h.lt_add_one.1
  have : (r : ℝ) < (j + 1 : Nat) := by push_cast; linarith
  exact Nat.le_of_lt_succ (by exact_mod_cast this)

theorem roundsToInt_floor {φ : ℝ} (h0 : 0 ≤ φ) (h1 : φ < 1) : RoundsToInt true (k + φ) k :=
  show (k : ℝ) ≤ k + φ ∧ (k : ℝ) + φ < k + 1 from ⟨by linarith, by linarith⟩

theorem roundsToInt_down {φ : ℝ} (h0 : 0 ≤ φ) (h : φ ≤ 1 / 2) (htie : φ = 1 / 2 → k % 2 = 0) :
    RoundsToInt false (k + φ) k := by
  have habs : |(k : ℝ) - (k + φ)| = φ := by rw [sub_add_cancel_left, abs_neg, abs_of_nonneg h0]
  change |(k : ℝ) - (k + φ)| ≤ 1 / 2 ∧ (|(k : ℝ) - (k + φ)| = 1 / 2 → k % 2 = 0)
  rw [habs]
  exact ⟨h, htie⟩

theorem roundsToInt_up {φ : ℝ} (h : 1 / 2 ≤ φ) (h1 : φ < 1) (htie : φ = 1 / 2 → (k + 1) % 2 = 0) :
    RoundsToInt false (k + φ) (k + 1) := by
  have habs : |((k + 1 : Nat) : ℝ) - (k + φ)| = 1 - φ := by
    push_cast
    rw [add_sub_add_left_eq_sub, abs_of_nonneg (by linarith)]
  change |((k + 1 : Nat) : ℝ) - (k + φ)| ≤ 1 / 2 ∧ (|((k + 1 : Nat) : ℝ) - (k + φ)| = 1 / 2 → (k + 1) % 2 = 0)
  rw [habs]
  exact ⟨by linarith, fun heq => htie (by linarith)⟩

/-- What an exact value has beyond its integer part: nothing, or, when sticky, a part of one. -/
def IsSticky (sticky : Bool) (δ : ℝ) : Prop := if sticky then 0 < δ ∧ δ < 1 else δ = 0

theorem IsSticky.nonneg (h : IsSticky sticky δ) : 0 ≤ δ := by
  cases sticky with
  | false => exact le_of_eq (Eq.symm h)
  | true => exact h.1.le

theorem IsSticky.lt_one (h : IsSticky sticky δ) : δ < 1 := by
  cases sticky with
  | false => exact lt_of_eq_of_lt h one_pos
  | true => exact h.2

/-- A part of one does not reach over the next half, which is an integer as soon as a bit is cut. -/
theorem IsSticky.below_half (h : IsSticky sticky δ) (hk : sticky = true → 1 ≤ k) {n : Nat} (hn : 2 * n < 2 ^ k) :
    2 * ((n : ℝ) + δ) < 2 ^ k := by
  cases sticky with
  | false =>
    rw [show δ = 0 from h, add_zero]
    exact_mod_cast hn
  | true =>
    obtain ⟨j, rfl⟩ := Nat.exists_eq_add_of_le' (hk rfl)
    have hnext : n + 1 ≤ 2 ^ j := by rw [pow_succ] at hn; omega
    have hnext : (n : ℝ) + 1 ≤ 2 ^ j := by exact_mod_cast hnext
    have := h.lt_one
    rw [pow_succ]
    linarith

/-- Over the half, or on it: only an exact half is met exactly. -/
theorem IsSticky.not_sticky_of_half (h : IsSticky sticky δ) {n : Nat} (hn : 2 ^ k ≤ 2 * n)
    (heq : 2 * ((n : ℝ) + δ) = 2 ^ k) : 2 * n = 2 ^ k ∧ sticky = false := by
  have hn' : (2 : ℝ) ^ k ≤ 2 * n := by exact_mod_cast hn
  have hδ : δ = 0 := le_antisymm (by linarith) h.nonneg
  refine ⟨by rw [hδ, add_zero] at heq; exact_mod_cast heq, ?_⟩
  cases sticky with
  | false => rfl
  | true => exact absurd hδ h.1.ne'

/-- `roundShift` rounds the significand, and what lies below it, divided by a power of two; of what lies below it only
knows that it is there (45_fpu.md R505(b)). -/
theorem roundShift_roundsToInt (hδ : IsSticky sticky δ) (hk : sticky = true → 1 ≤ k) :
    RoundsToInt toZero ((sig + δ) / 2 ^ k) (roundShift toZero sticky sig k) := by
  obtain ⟨φ, hφ⟩ : ∃ φ : ℝ, φ = ((sig % 2 ^ k : Nat) + δ) / 2 ^ k := ⟨_, rfl⟩
  have hpow : (0 : ℝ) < 2 ^ k := by positivity
  have hmul : ((sig % 2 ^ k : Nat) : ℝ) + δ = φ * 2 ^ k := by rw [hφ]; field_simp
  have hsplit : (sig : ℝ) = (sig / 2 ^ k : Nat) * 2 ^ k + (sig % 2 ^ k : Nat) := by
    exact_mod_cast (Nat.div_add_mod' sig (2 ^ k)).symm
  have hq : ((sig : ℝ) + δ) / 2 ^ k = (sig / 2 ^ k : Nat) + φ := by
    rw [hφ, hsplit]
    field_simp
    ring
  have h0 : 0 ≤ φ := by
    have := hδ.nonneg
    rw [hφ]
    positivity
  have h1 : φ < 1 := by
    have hrest : sig % 2 ^ k + 1 ≤ 2 ^ k := Nat.mod_lt _ (by positivity)
    have hrest : ((sig % 2 ^ k : Nat) : ℝ) + 1 ≤ 2 ^ k := by exact_mod_cast hrest
    have := hδ.lt_one
    exact lt_of_mul_lt_mul_right (by linarith) hpow.le
  rw [hq, roundShift]
  cases toZero with
  | true => exact roundsToInt_floor h0 h1
  | false =>
    simp only [Bool.false_eq_true, if_false]
    split
    · next hlow =>
      have hhalf := hδ.below_half hk hlow
      have hhalf : φ < 1 / 2 := lt_of_mul_lt_mul_right (by linarith) hpow.le
      exact roundsToInt_down h0 hhalf.le fun heq => absurd heq hhalf.ne
    · next hhigh =>
      have hhigh := Nat.le_of_not_lt hhigh
      split
      · next htie =>
        obtain ⟨hrest, rfl, heven⟩ := htie
        have hrest : 2 * ((sig % 2 ^ k : Nat) : ℝ) = 2 ^ k := by exact_mod_cast hrest
        rw [show δ = 0 from hδ, add_zero] at hmul
        have hhalf : φ = 1 / 2 := mul_right_cancel₀ hpow.ne' (by linarith)
        exact roundsToInt_down h0 hhalf.le fun _ => heven
      · next htie =>
        have hhigh' : (2 : ℝ) ^ k ≤ 2 * (sig % 2 ^ k : Nat) := by exact_mod_cast hhigh
        have hhalf : 1 / 2 ≤ φ := le_of_mul_le_mul_right (by linarith [hδ.nonneg]) hpow
        refine roundsToInt_up hhalf h1 fun heq => ?_
        obtain ⟨hrest, hexact⟩ := hδ.not_sticky_of_half hhigh (by rw [hmul, heq]; ring)
        have hodd : sig / 2 ^ k % 2 ≠ 0 := fun heven => htie ⟨hrest, hexact, heven⟩
        omega

/-! ### The place of a result -/

theorem SuitsPlace.lt_natCast (h : SuitsPlace f x u) : x < ((2 ^ (f.frac + 1) : Nat) : ℝ) * (2 : ℝ) ^ u := by
  push_cast
  exact h.lt

/-- An exact magnitude, as its significand and a part of one at its exponent. -/
theorem exists_sticky_of_isExact (h : IsExact f sticky sig e x) :
    ∃ δ, IsSticky sticky δ ∧ x = (sig + δ) * (2 : ℝ) ^ e ∧ (sticky = true → 2 ^ (f.frac + 2) ≤ sig) := by
  have hpow : (0 : ℝ) < (2 : ℝ) ^ e := by positivity
  cases sticky with
  | false =>
    have hx : x = (sig : ℝ) * (2 : ℝ) ^ e := h
    exact ⟨0, rfl, by rw [add_zero, hx], fun h => nomatch h⟩
  | true =>
    obtain ⟨hsig, hlow, hhigh⟩ : 2 ^ (f.frac + 2) ≤ sig ∧ (sig : ℝ) * 2 ^ e < x ∧ x < ((sig + 1 : Nat) : ℝ) * 2 ^ e := h
    rw [← lt_div_iff₀ hpow] at hlow
    rw [← div_lt_iff₀ hpow] at hhigh
    push_cast at hhigh
    exact ⟨x / 2 ^ e - sig, ⟨by linarith, by linarith⟩, by field_simp; ring, fun _ => hsig⟩

theorem two_zpow_toNat {a b : Int} (h : a ≤ b) : (2 : ℝ) ^ b = (2 : ℝ) ^ (b - a).toNat * (2 : ℝ) ^ a := by
  rw [← zpow_natCast, ← zpow_add₀ two_ne_zero]
  congr 1
  omega

/-- The place `ulpOf` gives suits every magnitude of that significand and exponent. -/
theorem suitsPlace_ulpOf (hsig : 0 < sig) (hδ : IsSticky sticky δ) :
    SuitsPlace f ((sig + δ) * (2 : ℝ) ^ e) (f.ulpOf sig e) := by
  have hδ0 := hδ.nonneg
  have hδ1 := hδ.lt_one
  have hpow : (0 : ℝ) < (2 : ℝ) ^ e := by positivity
  have htop : (sig : ℝ) + 1 ≤ (2 : ℝ) ^ (Nat.log2 sig + 1) := by exact_mod_cast Nat.lt_log2_self
  have hbottom : (2 : ℝ) ^ Nat.log2 sig ≤ (sig : ℝ) := by exact_mod_cast Nat.log2_self_le hsig.ne'
  refine ⟨le_max_right .., ?_, fun hu => ?_⟩
  · have hplace : ((Nat.log2 sig + 1 : Nat) : Int) + e ≤ ((f.frac + 1 : Nat) : Int) + f.ulpOf sig e := by
      have := le_max_left (e + (Nat.log2 sig : Int) - (f.frac : Int)) f.minUlp
      rw [FpFormat.ulpOf]
      omega
    calc ((sig : ℝ) + δ) * (2 : ℝ) ^ e
      _ < (2 : ℝ) ^ (Nat.log2 sig + 1) * (2 : ℝ) ^ e := by gcongr; linarith
      _ = (2 : ℝ) ^ (((Nat.log2 sig + 1 : Nat) : Int) + e) := by rw [zpow_add₀ two_ne_zero, zpow_natCast]
      _ ≤ (2 : ℝ) ^ (((f.frac + 1 : Nat) : Int) + f.ulpOf sig e) := zpow_le_zpow_right₀ one_le_two hplace
      _ = (2 : ℝ) ^ (f.frac + 1) * (2 : ℝ) ^ f.ulpOf sig e := by rw [zpow_add₀ two_ne_zero, zpow_natCast]
  · have hplace : (f.frac : Int) + f.ulpOf sig e = (Nat.log2 sig : Int) + e := by
      have hmax : f.ulpOf sig e = e + (Nat.log2 sig : Int) - (f.frac : Int) := by
        rw [FpFormat.ulpOf] at hu ⊢
        omega
      omega
    calc (2 : ℝ) ^ f.frac * (2 : ℝ) ^ f.ulpOf sig e
      _ = (2 : ℝ) ^ ((Nat.log2 sig : Int) + e) := by rw [← hplace, zpow_add₀ two_ne_zero, zpow_natCast]
      _ = (2 : ℝ) ^ Nat.log2 sig * (2 : ℝ) ^ e := by rw [zpow_add₀ two_ne_zero, zpow_natCast]
      _ ≤ ((sig : ℝ) + δ) * (2 : ℝ) ^ e := by gcongr; linarith

/-- The significand that `round` hands on: the exact magnitude rounded at that place. -/
def FpFormat.roundedSignificand (f : FpFormat) (toZero sticky : Bool) (sig : Nat) (e : Int) : Nat :=
  if e ≤ f.ulpOf sig e then roundShift toZero sticky sig (f.ulpOf sig e - e).toNat
  else sig * 2 ^ (e - f.ulpOf sig e).toNat

theorem FpFormat.round_eq (hsig : 0 < sig) :
    f.round toZero dn sign sticky sig e =
      f.assemble toZero dn sign (f.roundedSignificand toZero sticky sig e) (f.ulpOf sig e) := if_neg hsig.ne'

/-- More bits than a result keeps reach below its last place. -/
theorem lt_ulpOf_of_long (hsig : 2 ^ (f.frac + 2) ≤ sig) : e + 2 ≤ f.ulpOf sig e := by
  have hlog : f.frac + 2 ≤ Nat.log2 sig := (Nat.le_log2 (by have := Nat.two_pow_pos (f.frac + 2); omega)).mpr hsig
  rw [FpFormat.ulpOf]
  omega

theorem roundedSignificand_roundsToInt (hδ : IsSticky sticky δ) (hlong : sticky = true → 2 ^ (f.frac + 2) ≤ sig) :
    RoundsToInt toZero ((sig + δ) * (2 : ℝ) ^ e / (2 : ℝ) ^ f.ulpOf sig e)
      (f.roundedSignificand toZero sticky sig e) := by
  rw [FpFormat.roundedSignificand]
  have hpow : (2 : ℝ) ^ e ≠ 0 := by positivity
  split
  · next hle =>
    have hk : sticky = true → 1 ≤ (f.ulpOf sig e - e).toNat := fun h => by
      have := lt_ulpOf_of_long (e := e) (hlong h)
      omega
    rw [two_zpow_toNat hle, mul_div_mul_right _ _ hpow]
    exact roundShift_roundsToInt hδ hk
  · next hgt =>
    have hexact : δ = 0 := by
      cases sticky with
      | false => exact hδ
      | true => exact absurd (lt_ulpOf_of_long (e := e) (hlong rfl)) (by omega)
    have hpow' : (2 : ℝ) ^ f.ulpOf sig e ≠ 0 := by positivity
    have hself : (sig + δ) * (2 : ℝ) ^ e / (2 : ℝ) ^ f.ulpOf sig e =
        ((sig * 2 ^ (e - f.ulpOf sig e).toNat : Nat) : ℝ) := by
      rw [hexact, two_zpow_toNat (by omega : f.ulpOf sig e ≤ e)]
      push_cast
      field_simp
      ring
    rw [hself]
    exact roundsToInt_self

end

end Sys2Proof.Machine
end

section
/-! PROOF. The pattern of a rounded significand: its magnitude, overflow, and that `round` is correct rounding
(45_fpu.md R505). -/

namespace Sys2Proof.Machine

open Sys2Proof.Safety

/-- A magnitude under a sign. -/
noncomputable def withSign (s : Bool) (v : ℝ) : ℝ := if s then -v else v

section
variable {f : FpFormat} {toZero dn sign sticky : Bool} {sig r e m p y : Nat} {u ex : Int} {x : ℝ}

/-! ### Magnitudes of packed patterns -/

theorem magnitude_pack_denormal (hm : m < 2 ^ f.frac) : magnitude f (f.pack sign 0 m) = m * (2 : ℝ) ^ f.minUlp := by
  rw [magnitude, FpFormat.expField_pack (Nat.zero_le _) hm, FpFormat.fracField_pack hm]
  simp

theorem magnitude_pack_normal (he : 1 ≤ e) (hmax : e ≤ f.maxExp) (hm : m < 2 ^ f.frac) :
    magnitude f (f.pack sign e m) = ((2 ^ f.frac + m : Nat) : ℝ) * (2 : ℝ) ^ (f.minUlp + e - 1) := by
  rw [magnitude, FpFormat.expField_pack hmax hm, FpFormat.fracField_pack hm, if_neg (by omega), max_eq_left he]

/-- The magnitude an infinity would have: the first power of two above every finite pattern. -/
noncomputable def FpFormat.infinityMagnitude (f : FpFormat) : ℝ :=
  (2 : ℝ) ^ f.frac * (2 : ℝ) ^ (f.minUlp + f.maxExp - 1)

theorem FpFormat.Proper.magnitude_inf (hf : f.Proper) : magnitude f (f.inf sign) = f.infinityMagnitude := by
  have hmax := hf.two_le_maxExp
  rw [FpFormat.inf, magnitude_pack_normal (by omega) le_rfl (by positivity), FpFormat.infinityMagnitude]
  push_cast
  rw [add_zero]

theorem FpFormat.Proper.magnitude_lt_infinity (hf : f.Proper) (h : isFinite f p) :
    magnitude f p < f.infinityMagnitude := by
  have hlt : f.expField p < f.maxExp := lt_of_le_of_ne (f.expField_le p) h
  rw [← hf.magnitude_inf (sign := false)]
  refine magnitude_lt_of_expField_lt ?_
  rwa [FpFormat.inf, FpFormat.expField_pack le_rfl (by positivity)]

/-! ### Assembling -/

/-- A significand of full length as exponent field and fraction; a carry leaves a fraction of 0 under the next
exponent. -/
theorem exists_fields (hf : f.Proper) (hu : f.minUlp ≤ u) (hfull : 2 ^ f.frac ≤ r) (hr : r ≤ 2 ^ (f.frac + 1)) :
    ∃ e m : Nat, 1 ≤ e ∧ m < 2 ^ f.frac ∧ m % 2 = r % 2 ∧
      ((2 ^ f.frac + m : Nat) : ℝ) * (2 : ℝ) ^ (f.minUlp + e - 1) = r * (2 : ℝ) ^ u ∧
      ∀ toZero dn sign, f.assemble toZero dn sign r u =
        if f.maxExp ≤ e then f.overflow toZero sign else f.pack sign e m := by
  have hnot : ¬ r < 2 ^ f.frac := Nat.not_lt.mpr hfull
  have hpos : 0 < 2 ^ f.frac := by positivity
  have heven : 2 ∣ 2 ^ f.frac := dvd_pow_self 2 (by have := hf.frac; omega)
  rw [pow_succ] at hr
  by_cases hcarry : r = 2 ^ f.frac * 2
  · refine ⟨(u - f.minUlp).toNat + 2, 0, by omega, hpos, by omega, ?_, fun toZero dn sign => ?_⟩
    · have hplace : f.minUlp + (((u - f.minUlp).toNat + 2 : Nat) : Int) - 1 = u + 1 := by omega
      rw [hplace, zpow_add_one₀ two_ne_zero, hcarry]
      push_cast
      ring
    · have hle : 2 ^ (f.frac + 1) ≤ r := by rw [pow_succ]; omega
      simp [FpFormat.assemble, hnot, hle]
  · refine ⟨(u - f.minUlp).toNat + 1, r - 2 ^ f.frac, by omega, by omega, by omega, ?_, fun toZero dn sign => ?_⟩
    · have hplace : f.minUlp + (((u - f.minUlp).toNat + 1 : Nat) : Int) - 1 = u := by omega
      rw [hplace, Nat.add_sub_cancel' hfull]
    · have hlt : ¬ 2 ^ (f.frac + 1) ≤ r := by rw [pow_succ]; omega
      simp [FpFormat.assemble, hnot, hlt]

theorem FpFormat.assemble_denormal (h : r < 2 ^ f.frac) :
    f.assemble toZero dn sign r u = if dn then f.zero sign else f.pack sign 0 r := if_pos h

theorem FpFormat.Proper.expField_overflow (hf : f.Proper) : f.expField (f.overflow toZero sign) ≠ 0 := by
  have hmax := hf.two_le_maxExp
  have hpos : 0 < 2 ^ f.frac := by positivity
  cases toZero with
  | false =>
    have h : f.expField (f.inf sign) = f.maxExp := FpFormat.expField_pack le_rfl hpos
    rw [FpFormat.overflow, if_neg Bool.false_ne_true, h]
    omega
  | true =>
    have h : f.expField (f.maxFinite sign) = f.maxExp - 1 := FpFormat.expField_pack (by omega) (by omega)
    rw [FpFormat.overflow, if_pos rfl, h]
    omega

/-- With DN = 1 a denormal result becomes a zero of its sign; the rest of assembling does not look at DN. -/
theorem assemble_flush (hf : f.Proper) (hu : f.minUlp ≤ u) (hr : r ≤ 2 ^ (f.frac + 1)) :
    f.assemble toZero dn sign r u =
      if dn = true ∧ f.expField (f.assemble toZero false sign r u) = 0 then f.zero sign
      else f.assemble toZero false sign r u := by
  rcases Nat.lt_or_ge r (2 ^ f.frac) with hlt | hfull
  · have he : f.expField (f.pack sign 0 r) = 0 := FpFormat.expField_pack (Nat.zero_le _) hlt
    simp [FpFormat.assemble_denormal hlt, he]
  · obtain ⟨e, m, he, hm, -, -, hassemble⟩ := exists_fields hf hu hfull hr
    have hnormal : f.expField (f.assemble toZero false sign r u) ≠ 0 := by
      rw [hassemble]
      split
      · exact hf.expField_overflow
      · next hlt =>
        rw [FpFormat.expField_pack (by omega) hm]
        omega
    rw [if_neg fun h => hnormal h.2, hassemble, hassemble]

/-- What assembling makes of a significand: a finite pattern of that magnitude and with the same last bit, or, where
there is none, overflow. -/
theorem assemble_cases (hf : f.Proper) (hu : f.minUlp ≤ u) (hr : r ≤ 2 ^ (f.frac + 1))
    (hnormal : f.minUlp < u → 2 ^ f.frac ≤ r) :
    (∃ e m, e < f.maxExp ∧ m < 2 ^ f.frac ∧ f.assemble toZero false sign r u = f.pack sign e m ∧
        magnitude f (f.pack sign e m) = r * (2 : ℝ) ^ u ∧ m % 2 = r % 2) ∨
      (f.infinityMagnitude ≤ r * (2 : ℝ) ^ u ∧ f.assemble toZero false sign r u = f.overflow toZero sign) := by
  have hmax := hf.two_le_maxExp
  rcases Nat.lt_or_ge r (2 ^ f.frac) with hlt | hfull
  · have hleast : u = f.minUlp := le_antisymm (not_lt.mp fun h => absurd (hnormal h) (Nat.not_le.mpr hlt)) hu
    refine .inl ⟨0, r, by omega, hlt, FpFormat.assemble_denormal hlt, ?_, rfl⟩
    rw [magnitude_pack_denormal hlt, hleast]
  · obtain ⟨e, m, he, hm, hparity, hvalue, hassemble⟩ := exists_fields hf hu hfull hr
    rw [hassemble]
    split
    · next hover =>
      refine .inr ⟨?_, rfl⟩
      rw [← hvalue, FpFormat.infinityMagnitude]
      push_cast
      gcongr
      · exact le_add_of_nonneg_right (Nat.cast_nonneg m)
      · exact one_le_two
    · next hfinite =>
      exact .inl ⟨e, m, by omega, hm, rfl, (magnitude_pack_normal he (by omega) hm).trans hvalue, hparity⟩

/-! ### Nearest and truncated magnitudes -/

theorem SuitsPlace.full_le (h : SuitsPlace f x u) (hy : f.lastPlace y < u) : (2 : ℝ) ^ f.frac * (2 : ℝ) ^ u ≤ x :=
  h.le (lt_of_le_of_lt (f.minUlp_le_lastPlace y) hy)

/-- The distances of multiples of a place, counted in places. -/
theorem abs_mul_place (j : ℝ) (x : ℝ) (u : Int) :
    |j * (2 : ℝ) ^ u - x| = |j - x / (2 : ℝ) ^ u| * (2 : ℝ) ^ u := by
  have hpow : (0 : ℝ) < (2 : ℝ) ^ u := by positivity
  rw [← abs_of_pos hpow, ← abs_mul, abs_of_pos hpow, sub_mul, div_mul_cancel₀ _ hpow.ne']

/-- A rounded significand is nearest among all patterns, not only among the multiples of its place. -/
theorem magnitude_nearest (hx : SuitsPlace f x u) (hr : RoundsToInt false (x / (2 : ℝ) ^ u) r) (y : Nat) :
    |r * (2 : ℝ) ^ u - x| ≤ |magnitude f y - x| ∧
      (|magnitude f y - x| = |r * (2 : ℝ) ^ u - x| → magnitude f y = r * (2 : ℝ) ^ u ∨ r % 2 = 0) := by
  have hpow : (0 : ℝ) < (2 : ℝ) ^ u := by positivity
  rcases magnitude_on_grid f y u with ⟨j, hj⟩ | ⟨hplace, hlt⟩
  · obtain ⟨hle, htie⟩ := hr.nearest j
    rw [hj, abs_mul_place, abs_mul_place]
    refine ⟨by gcongr, fun heq => (htie (mul_right_cancel₀ hpow.ne' heq)).imp (fun h => by rw [h]) id⟩
  · have hfull := hx.full_le hplace
    have hle := (hr.nearest (2 ^ f.frac)).1
    have hnear : |r * (2 : ℝ) ^ u - x| ≤ |(2 : ℝ) ^ f.frac * (2 : ℝ) ^ u - x| := by
      rw [abs_mul_place, abs_mul_place]
      push_cast at hle
      gcongr
    rw [abs_of_nonpos (sub_nonpos.mpr hfull)] at hnear
    have hfar : |r * (2 : ℝ) ^ u - x| < |magnitude f y - x| := by
      rw [abs_of_nonpos (by linarith : magnitude f y - x ≤ 0)]
      linarith
    exact ⟨hfar.le, fun heq => absurd heq hfar.ne'⟩

/-- A truncated significand is the greatest magnitude of a pattern that is not above the exact one. -/
theorem magnitude_truncated (hx : SuitsPlace f x u) (hr : RoundsToInt true (x / (2 : ℝ) ^ u) r) :
    r * (2 : ℝ) ^ u ≤ x ∧ ∀ y, magnitude f y ≤ x → magnitude f y ≤ r * (2 : ℝ) ^ u := by
  have hpow : (0 : ℝ) < (2 : ℝ) ^ u := by positivity
  have hle : (r : ℝ) ≤ x / (2 : ℝ) ^ u := hr.1
  refine ⟨(le_div_iff₀ hpow).mp hle, fun y hy => ?_⟩
  rcases magnitude_on_grid f y u with ⟨j, hj⟩ | ⟨hplace, hlt⟩
  · rw [hj] at hy ⊢
    have hjr : j ≤ r := hr.le_of_le ((le_div_iff₀ hpow).mpr hy)
    gcongr
  · have hfull : 2 ^ f.frac ≤ r := hr.le_of_le (by push_cast; exact (le_div_iff₀ hpow).mpr (hx.full_le hplace))
    have hfull : (2 : ℝ) ^ f.frac ≤ r := by exact_mod_cast hfull
    exact hlt.le.trans (by gcongr)

/-! ### Overflow -/

/-- Half a last place above the largest finite number, in its last places. -/
theorem overflowBound_eq (f : FpFormat) :
    overflowBound f = ((2 ^ (f.frac + 1) : Nat) - 1 / 2 : ℝ) * (2 : ℝ) ^ (f.minUlp + f.maxExp - 2) := by
  have hplace : f.minUlp + f.maxExp - 2 = (f.minUlp + f.maxExp - 3) + 1 := by ring
  have hcast : ((2 ^ (f.frac + 2) - 1 : Nat) : ℝ) = (2 : ℝ) ^ (f.frac + 1) * 2 - 1 := by
    rw [Nat.cast_sub (Nat.one_le_two_pow), pow_succ 2 (f.frac + 1)]
    push_cast
    ring
  rw [overflowBound, hplace, zpow_add_one₀ two_ne_zero, hcast]
  push_cast
  ring

theorem infinityMagnitude_eq (f : FpFormat) :
    f.infinityMagnitude = ((2 ^ (f.frac + 1) : Nat) : ℝ) * (2 : ℝ) ^ (f.minUlp + f.maxExp - 2) := by
  have hplace : f.minUlp + f.maxExp - 1 = (f.minUlp + f.maxExp - 2) + 1 := by ring
  rw [FpFormat.infinityMagnitude, hplace, zpow_add_one₀ two_ne_zero]
  push_cast
  ring

/-- To nearest, what is rounded reaches beyond the finite patterns exactly from the overflow bound on. -/
theorem overflow_iff (hf : f.Proper) (hx : SuitsPlace f x u) (hr : RoundsToInt false (x / (2 : ℝ) ^ u) r) :
    overflowBound f ≤ x ↔ f.infinityMagnitude ≤ r * (2 : ℝ) ^ u := by
  have hmax := hf.two_le_maxExp
  have hpow : (0 : ℝ) < (2 : ℝ) ^ u := by positivity
  have hlt : x / (2 : ℝ) ^ u < (2 ^ (f.frac + 1) : Nat) := (div_lt_iff₀ hpow).mpr hx.lt_natCast
  have hr_le : r ≤ 2 ^ (f.frac + 1) := hr.le_of_lt hlt
  have hr_le' : (r : ℝ) ≤ (2 ^ (f.frac + 1) : Nat) := by exact_mod_cast hr_le
  rw [overflowBound_eq, infinityMagnitude_eq]
  rcases lt_trichotomy u (f.minUlp + f.maxExp - 2) with hu | hu | hu
  -- Below the place of the largest finite number both are far away.
  · have hplace : (2 : ℝ) ^ u * 2 ≤ (2 : ℝ) ^ (f.minUlp + f.maxExp - 2) := by
      rw [← zpow_add_one₀ two_ne_zero]
      exact zpow_le_zpow_right₀ one_le_two hu
    have hfull : (1 : ℝ) ≤ (2 ^ (f.frac + 1) : Nat) := by exact_mod_cast Nat.one_le_two_pow
    have hlt' := hx.lt_natCast
    refine iff_of_false (not_le.mpr ?_) (not_le.mpr ?_)
    · nlinarith
    · nlinarith
  -- At that place the bound is a tie, which the even neighbour takes.
  · rw [← hu, ← le_div_iff₀ hpow, mul_le_mul_iff_left₀ hpow, Nat.cast_le]
    constructor
    · intro hbound
      by_contra hless
      have hr_lt : (r : ℝ) + 1 ≤ (2 ^ (f.frac + 1) : Nat) := by exact_mod_cast Nat.lt_of_not_le hless
      obtain ⟨hhalf, htie⟩ : |(r : ℝ) - x / (2 : ℝ) ^ u| ≤ 1 / 2 ∧ (|(r : ℝ) - x / (2 : ℝ) ^ u| = 1 / 2 → r % 2 = 0) :=
        hr
      have hle := (abs_le.mp hhalf).1
      have heven := htie (le_antisymm hhalf (by rw [abs_sub_comm]; exact le_abs.mpr (.inl (by linarith))))
      have hnext : ((r + 1 : Nat) : ℝ) = (2 ^ (f.frac + 1) : Nat) := by push_cast at hr_lt hbound hle ⊢; linarith
      have hnext : r + 1 = 2 ^ (f.frac + 1) := by exact_mod_cast hnext
      omega
    · intro hle
      have hr_eq : (r : ℝ) = (2 ^ (f.frac + 1) : Nat) := le_antisymm hr_le' (by exact_mod_cast hle)
      have := (abs_le.mp hr.1).2
      linarith
  -- Above it every number is beyond the bound.
  · have hplace : (2 : ℝ) ^ (f.minUlp + f.maxExp - 2) * 2 ≤ (2 : ℝ) ^ u := by
      rw [← zpow_add_one₀ two_ne_zero]
      exact zpow_le_zpow_right₀ one_le_two hu
    have hx_full := hx.le (by omega)
    have hr_full : 2 ^ f.frac ≤ r := hr.le_of_le (by push_cast; exact (le_div_iff₀ hpow).mpr hx_full)
    have hr_full : (2 : ℝ) ^ f.frac ≤ r := by exact_mod_cast hr_full
    have hfull : (2 ^ (f.frac + 1) : Nat) * (2 : ℝ) ^ (f.minUlp + f.maxExp - 2) ≤ (2 : ℝ) ^ f.frac * (2 : ℝ) ^ u := by
      push_cast
      rw [pow_succ, mul_assoc, mul_comm (2 : ℝ)]
      gcongr
    have hpow' : (0 : ℝ) < (2 : ℝ) ^ (f.minUlp + f.maxExp - 2) := by positivity
    refine iff_of_true ?_ ?_
    · linarith
    · exact hfull.trans (by gcongr)

/-! ### The pattern rounded to -/

@[simp] theorem withSign_zero : withSign sign 0 = 0 := by cases sign <;> simp [withSign]

theorem withSign_eq_zero_iff : withSign sign x = 0 ↔ x = 0 := by cases sign <;> simp [withSign]

theorem abs_withSign : |withSign sign x| = |x| := by cases sign <;> simp [withSign]

theorem roundsTo_num_of_pos (hx : 0 < x) :
    RoundsTo f toZero dn (.num sign (withSign sign x)) r ↔
      ∃ p < 2 ^ (f.signAt + 1), f.sign p = sign ∧
        (if toZero = true then IsTruncation f x p else IsNearest f x p) ∧
        r = if dn = true ∧ f.expField p = 0 then f.zero sign else p := by
  rw [RoundsTo, if_neg (mt withSign_eq_zero_iff.mp hx.ne'), abs_withSign, abs_of_pos hx]

/-- The largest finite pattern is above every finite one. -/
theorem magnitude_le_maxFinite (hf : f.Proper) (hy : isFinite f y) :
    magnitude f y ≤ magnitude f (f.maxFinite sign) := by
  have hmax := hf.two_le_maxExp
  have hpos : 0 < 2 ^ f.frac := by positivity
  have hexp : f.expField y < f.maxExp := lt_of_le_of_ne (f.expField_le y) hy
  have hfrac := f.fracField_lt y
  by_contra hlt
  rw [not_le, magnitude_lt_iff, FpFormat.maxFinite, FpFormat.pack_mod_signAt (by omega) (by omega), f.mod_signAt] at hlt
  have : f.expField y * 2 ^ f.frac ≤ (f.maxExp - 1) * 2 ^ f.frac := Nat.mul_le_mul_right _ (by omega)
  omega

theorem isFinite_pack (he : e < f.maxExp) (hm : m < 2 ^ f.frac) : isFinite f (f.pack sign e m) := by
  rw [isFinite, FpFormat.expField_pack he.le hm]
  exact he.ne

/-- A rounded significand has no more bits than the place allows, but for a carry. -/
theorem SuitsPlace.rounded_le (hx : SuitsPlace f x u) (hr : RoundsToInt toZero (x / (2 : ℝ) ^ u) r) :
    r ≤ 2 ^ (f.frac + 1) := hr.le_of_lt ((div_lt_iff₀ (by positivity)).mpr hx.lt_natCast)

theorem SuitsPlace.full_le_rounded (hx : SuitsPlace f x u) (hr : RoundsToInt toZero (x / (2 : ℝ) ^ u) r)
    (hu : f.minUlp < u) : 2 ^ f.frac ≤ r :=
  hr.le_of_le (by push_cast; exact (le_div_iff₀ (by positivity)).mpr (hx.le hu))

/-- Toward zero, the pattern of the truncated significand is the truncation, or the largest finite one. -/
theorem isTruncation_assemble (hf : f.Proper) (hx : SuitsPlace f x u) (hr : RoundsToInt true (x / (2 : ℝ) ^ u) r) :
    ∃ p < 2 ^ (f.signAt + 1), f.sign p = sign ∧ IsTruncation f x p ∧ f.assemble true false sign r u = p := by
  obtain ⟨hle, hgreatest⟩ := magnitude_truncated hx hr
  rcases assemble_cases hf hx.minUlp_le (hx.rounded_le hr) (hx.full_le_rounded hr) with
    ⟨e, m, he, hm, hp, hvalue, -⟩ | ⟨hover, hp⟩
  · refine ⟨_, FpFormat.pack_lt he.le hm, FpFormat.sign_pack he.le hm, ⟨isFinite_pack he hm, ?_, ?_⟩, hp⟩
    · rwa [hvalue]
    · intro y _ _ hy
      rw [hvalue]
      exact hgreatest y hy
  · have hmax := hf.two_le_maxExp
    have hpos : 0 < 2 ^ f.frac := by positivity
    have he : f.maxExp - 1 < f.maxExp := by omega
    have hm : 2 ^ f.frac - 1 < 2 ^ f.frac := by omega
    have hfinite : isFinite f (f.maxFinite sign) := isFinite_pack he hm
    refine ⟨_, FpFormat.pack_lt he.le hm, FpFormat.sign_pack he.le hm, ⟨hfinite, ?_, ?_⟩, hp⟩
    · exact (hf.magnitude_lt_infinity hfinite).le.trans (hover.trans hle)
    · exact fun y _ hy _ => magnitude_le_maxFinite hf hy

/-- To nearest, the pattern of the rounded significand is the nearest one, or an infinity. -/
theorem isNearest_assemble (hf : f.Proper) (hx : SuitsPlace f x u) (hr : RoundsToInt false (x / (2 : ℝ) ^ u) r) :
    ∃ p < 2 ^ (f.signAt + 1), f.sign p = sign ∧ IsNearest f x p ∧ f.assemble false false sign r u = p := by
  have hpos : 0 < 2 ^ f.frac := by positivity
  have hoverflow := overflow_iff hf hx hr
  rcases assemble_cases hf hx.minUlp_le (hx.rounded_le hr) (hx.full_le_rounded hr) with
    ⟨e, m, he, hm, hp, hvalue, hparity⟩ | ⟨hover, hp⟩
  · have hfinite : isFinite f (f.pack sign e m) := isFinite_pack he hm
    have hbelow := hf.magnitude_lt_infinity hfinite
    rw [hvalue] at hbelow
    refine ⟨_, FpFormat.pack_lt he.le hm, FpFormat.sign_pack he.le hm,
      ⟨fun hbound => absurd (hoverflow.mp hbound) (not_le.mpr hbelow), fun _ => ⟨hfinite, fun y hy _ => ?_⟩⟩, hp⟩
    obtain ⟨hnearest, htie⟩ := magnitude_nearest hx hr y
    rw [← hvalue, magnitude_eq_iff, Nat.mod_eq_of_lt hy] at htie
    rw [hf.pack_mod_two, hparity]
    exact ⟨by rwa [hvalue], htie⟩
  · refine ⟨_, FpFormat.pack_lt le_rfl hpos, FpFormat.sign_pack le_rfl hpos,
      ⟨fun _ => ⟨FpFormat.expField_pack le_rfl hpos, FpFormat.fracField_pack hpos⟩,
        fun hbound => absurd (hoverflow.mpr hover) (not_le.mpr hbound)⟩, hp⟩

/-- Assembling a rounded significand is correct rounding, with what DN makes of a denormal. -/
theorem roundsTo_assemble (hf : f.Proper) (h0 : 0 < x) (hx : SuitsPlace f x u)
    (hr : RoundsToInt toZero (x / (2 : ℝ) ^ u) r) :
    RoundsTo f toZero dn (.num sign (withSign sign x)) (f.assemble toZero dn sign r u) := by
  rw [roundsTo_num_of_pos h0, assemble_flush hf hx.minUlp_le (hx.rounded_le hr)]
  cases toZero with
  | false =>
    obtain ⟨p, hp, hsign, hrounds, rfl⟩ := isNearest_assemble (sign := sign) hf hx hr
    exact ⟨_, hp, hsign, hrounds, rfl⟩
  | true =>
    obtain ⟨p, hp, hsign, hrounds, rfl⟩ := isTruncation_assemble (sign := sign) hf hx hr
    exact ⟨_, hp, hsign, hrounds, rfl⟩

/-- `round` rounds an exact magnitude correctly. -/
theorem roundsTo_round (hf : f.Proper) (hsig : 0 < sig) (h : IsExact f sticky sig ex x) :
    RoundsTo f toZero dn (.num sign (withSign sign x)) (f.round toZero dn sign sticky sig ex) := by
  obtain ⟨δ, hδ, rfl, hlong⟩ := exists_sticky_of_isExact h
  have hδ0 := hδ.nonneg
  rw [FpFormat.round_eq hsig]
  exact roundsTo_assemble hf (by positivity) (suitsPlace_ulpOf hsig hδ) (roundedSignificand_roundsToInt hδ hlong)

end

theorem FpFormat.proper_of_standard {f : FpFormat} (h : f = .single ∨ f = .double) : f.Proper := by
  rcases h with rfl | rfl
  · exact FpFormat.proper_single
  · exact FpFormat.proper_double

/-- Settles O50: the significand is rounded at a place that suits it, and no pattern lies between the multiples of that
place. -/
theorem roundingIsCorrect : Obligations.RoundingIsCorrect :=
  fun _ _ _ _ _ _ _ _ hf hsig h => roundsTo_round (FpFormat.proper_of_standard hf) hsig h

end Sys2Proof.Machine
end

section
/-! PROOF. The arithmetic on values: what each function answers is the exact result of the numbers its operands stand
for, rounded once, or no pattern where there is none (45_fpu.md R505, R510 to R513, R518, R519, R532, R536, R545). -/

namespace Sys2Proof.Machine

open Sys2Proof.Safety

/-- The number that a value stands for. -/
noncomputable def FpValue.number : FpValue → Extended
  | .nan => .nan
  | .infinite s => .inf s
  | .finite s sig e => .num s (withSign s (sig * (2 : ℝ) ^ e))

/-- An answer is the rounding of a number, or there is none for what is no number. -/
def AnswerRounds (f : FpFormat) (toZero dn : Bool) (x : Extended) (answer : Option Nat) : Prop :=
  match answer with
  | none => x = .nan
  | some r => x ≠ .nan ∧ RoundsTo f toZero dn x r

section
variable {f : FpFormat} {toZero dn sign s t : Bool} {sig r n y : Nat} {e i j : Int} {x : Extended} {z : Int}
  {a b c : FpValue} {answer : Option Nat}

/-! ### Numbers -/

/-- A finite pattern is its significand at its last place; with DN = 1 that of a denormal is 0 (45_fpu.md R505(c)). -/
theorem unpack_of_finite (h : isFinite f n) :
    f.unpack dn n =
      .finite (f.sign n) (if dn = true ∧ f.expField n = 0 then 0 else f.significand n) (f.lastPlace n) := by
  rw [FpFormat.unpack, if_neg h]
  split
  · next he =>
    have hplace : f.lastPlace n = f.minUlp := by simp [FpFormat.lastPlace, he]
    cases dn <;> simp [he, hplace, FpFormat.significand]
  · next he =>
    have hplace : f.lastPlace n = f.minUlp + (f.expField n : Int) - 1 := by
      rw [FpFormat.lastPlace, max_eq_left (by omega)]
    simp [he, hplace, FpFormat.significand]

/-- The number of a pattern is that of the value it is unpacked to (45_fpu.md R505(a), (c)). -/
theorem numberOf_eq_number (f : FpFormat) (dn : Bool) (n : Nat) : numberOf f dn n = (f.unpack dn n).number := by
  by_cases hmax : f.expField n = f.maxExp
  · rw [numberOf, FpFormat.unpack, if_pos hmax, if_pos hmax]
    split <;> rfl
  · rw [numberOf, if_neg hmax, unpack_of_finite hmax, FpValue.number]
    split
    · rw [Nat.cast_zero, zero_mul, withSign_zero]
    · rw [magnitude_eq, withSign]

theorem number_finite_eq_zero_iff : withSign s (sig * (2 : ℝ) ^ e) = 0 ↔ sig = 0 := by
  have hpow : (2 : ℝ) ^ e ≠ 0 := by positivity
  rw [withSign_eq_zero_iff, mul_eq_zero, or_iff_left hpow, Nat.cast_eq_zero]

/-- A product, or a quotient, of signed magnitudes is negative when one of them alone is. -/
theorem withSign_mul (v w : ℝ) : withSign s v * withSign t w = withSign (s != t) (v * w) := by
  cases s <;> cases t <;> simp [withSign]

theorem withSign_div (v w : ℝ) : withSign s v / withSign t w = withSign (s != t) (v / w) := by
  cases s <;> cases t <;> simp [withSign, neg_div, div_neg]

theorem number_neg (a : FpValue) : a.neg.number = opposite a.number := by
  cases a with
  | nan | infinite => rfl
  | finite s sig e => cases s <;> simp [FpValue.neg, FpValue.number, opposite, withSign]

/-- The product of values stands for the product of their numbers (45_fpu.md R512). -/
theorem number_mul (a b : FpValue) : (a.mul b).number = exactProduct a.number b.number := by
  cases a with
  | nan => cases b <;> rfl
  | infinite s =>
    cases b with
    | nan | infinite => rfl
    | finite t y j =>
      by_cases hzero : y = 0 <;> simp [FpValue.mul, FpValue.number, exactProduct, number_finite_eq_zero_iff, hzero]
  | finite s x i =>
    cases b with
    | nan => rfl
    | infinite t =>
      by_cases hzero : x = 0 <;> simp [FpValue.mul, FpValue.number, exactProduct, number_finite_eq_zero_iff, hzero]
    | finite t y j =>
      have hscaled : ((x * y : Nat) : ℝ) * (2 : ℝ) ^ (i + j) = x * (2 : ℝ) ^ i * (y * (2 : ℝ) ^ j) := by
        rw [zpow_add₀ two_ne_zero]
        push_cast
        ring
      rw [FpValue.mul, FpValue.number, FpValue.number, FpValue.number, exactProduct, withSign_mul, hscaled]

/-! ### Answers -/

theorem isNan_nanFrom (hf : f.Proper) (bits : Nat) : f.isNan (f.nanFrom bits) = true := by
  have hfrac : (if f.fracField bits = 0 then 1 else f.fracField bits) < 2 ^ f.frac ∧
      (if f.fracField bits = 0 then 1 else f.fracField bits) ≠ 0 := by
    have hlt := f.fracField_lt bits
    have hone : 1 < 2 ^ f.frac := Nat.one_lt_two_pow (by have := hf.frac; omega)
    split <;> omega
  rw [FpFormat.isNan, FpFormat.nanFrom, FpFormat.expField_pack le_rfl hfrac.1, FpFormat.fracField_pack hfrac.1]
  simp [hfrac.2]

theorem nanFrom_lt (hf : f.Proper) (bits : Nat) : f.nanFrom bits < 2 ^ (f.signAt + 1) := by
  have hone : 1 < 2 ^ f.frac := Nat.one_lt_two_pow (by have := hf.frac; omega)
  refine FpFormat.pack_lt le_rfl ?_
  split
  · exact hone
  · exact f.fracField_lt bits

theorem zero_lt_two_pow_frac (f : FpFormat) : 0 < 2 ^ f.frac := by positivity

/-- What rounds a number or an infinity is a pattern of the format. -/
theorem roundsTo_lt (hx : x ≠ .nan) (h : RoundsTo f toZero dn x r) : r < 2 ^ (f.signAt + 1) := by
  have hzero : ∀ s, f.zero s < 2 ^ (f.signAt + 1) := fun s =>
    FpFormat.pack_lt (Nat.zero_le _) (zero_lt_two_pow_frac f)
  cases x with
  | nan => exact absurd rfl hx
  | inf s =>
    rw [show r = f.inf s from h]
    exact FpFormat.pack_lt le_rfl (zero_lt_two_pow_frac f)
  | num s v =>
    rw [RoundsTo] at h
    split at h
    · rw [h]
      exact hzero s
    · obtain ⟨p, hp, -, -, rfl⟩ := h
      split
      · exact hzero s
      · exact hp

/-- The bits of an answer, a NaN where there is none, are the rounding. -/
theorem AnswerRounds.roundsTo_fpBits (hf : f.Proper) (h : AnswerRounds f toZero dn x answer) (n : Nat) :
    RoundsTo f toZero dn x (fpBits f answer n) ∧ fpBits f answer n < 2 ^ (f.signAt + 1) := by
  cases answer with
  | none =>
    rw [show x = .nan from h]
    exact ⟨isNan_nanFrom hf _, nanFrom_lt hf _⟩
  | some r => exact ⟨h.2, roundsTo_lt h.1 h.2⟩

theorem answerRounds_inf : AnswerRounds f toZero dn (.inf s) (some (f.inf s)) := ⟨nofun, rfl⟩

theorem answerRounds_num {v : ℝ} (h : RoundsTo f toZero dn (.num s v) r) :
    AnswerRounds f toZero dn (.num s v) (some r) := ⟨nofun, h⟩

theorem roundsTo_zero : RoundsTo f toZero dn (.num s 0) (f.zero s) := by
  rw [RoundsTo, if_pos rfl]

/-! ### The functions -/

/-- An exact finite value is rounded once. -/
theorem roundsTo_finite (hf : f.Proper) :
    RoundsTo f toZero dn (FpValue.finite s sig e).number (f.round toZero dn s false sig e) := by
  rw [FpValue.number]
  by_cases hsig : sig = 0
  · rw [hsig, FpFormat.round, if_pos rfl]
    simpa using roundsTo_zero
  · exact roundsTo_round hf (Nat.pos_of_ne_zero hsig) rfl

theorem answerRounds_roundValue (hf : f.Proper) : AnswerRounds f toZero dn a.number (f.roundValue toZero dn a) := by
  cases a with
  | nan => rfl
  | infinite s => exact answerRounds_inf
  | finite s sig e => exact answerRounds_num (roundsTo_finite hf)

/-- A finite value as an integer at a lower exponent. -/
theorem signedAt_mul_pow (h : e ≤ i) :
    (signedAt s sig i e : ℝ) * (2 : ℝ) ^ e = withSign s (sig * (2 : ℝ) ^ i) := by
  rw [signedAt, two_zpow_toNat h, withSign]
  cases s <;> push_cast <;> simp [mul_assoc]

/-- An exact signed sum is rounded once; of a zero the caller gives the sign. -/
theorem roundsTo_roundInt (hf : f.Proper) {zeroSign : Bool} {v : ℝ} (hv : v = (z : ℝ) * (2 : ℝ) ^ e)
    (hsign : sign = if z = 0 then zeroSign else decide (z < 0)) :
    RoundsTo f toZero dn (.num sign v) (f.roundInt toZero dn zeroSign z e) := by
  rw [FpFormat.roundInt]
  by_cases hz : z = 0
  · rw [if_pos hz] at hsign ⊢
    rw [hv, hz, Int.cast_zero, zero_mul, hsign]
    exact roundsTo_zero
  · rw [if_neg hz] at hsign ⊢
    have hfinite := roundsTo_finite (toZero := toZero) (dn := dn) (s := decide (z < 0)) (sig := z.natAbs) (e := e) hf
    have habs : v = withSign (decide (z < 0)) (z.natAbs * (2 : ℝ) ^ e) := by
      rw [hv, Nat.cast_natAbs, withSign]
      by_cases hneg : z < 0
      · simp [hneg, abs_of_neg hneg]
      · simp [hneg, abs_of_nonneg (Int.not_lt.mp hneg)]
    rwa [hsign, habs]

theorem scaled_eq_zero_iff : (z : ℝ) * (2 : ℝ) ^ e = 0 ↔ z = 0 := by
  have hpow : (2 : ℝ) ^ e ≠ 0 := by positivity
  rw [mul_eq_zero, or_iff_left hpow, Int.cast_eq_zero]

theorem scaled_neg_iff : (z : ℝ) * (2 : ℝ) ^ e < 0 ↔ z < 0 := by
  have hpow : (0 : ℝ) < (2 : ℝ) ^ e := by positivity
  rw [← not_le, mul_nonneg_iff_of_pos_right hpow, Int.cast_nonneg_iff, not_le]

theorem signedAt_add {x y : Nat} :
    ((signedAt s x i (min i j) + signedAt t y j (min i j) : Int) : ℝ) * (2 : ℝ) ^ min i j =
      withSign s (x * (2 : ℝ) ^ i) + withSign t (y * (2 : ℝ) ^ j) := by
  rw [Int.cast_add, add_mul, signedAt_mul_pow (min_le_left i j), signedAt_mul_pow (min_le_right i j)]

/-- Two negative terms with sum zero are zeros. -/
theorem zeros_of_negative_sum {x y : Nat}
    (h : withSign true (x * (2 : ℝ) ^ i) + withSign true (y * (2 : ℝ) ^ j) = 0) : x = 0 ∧ y = 0 := by
  have hx : 0 ≤ (x : ℝ) * (2 : ℝ) ^ i := by positivity
  have hy : 0 ≤ (y : ℝ) * (2 : ℝ) ^ j := by positivity
  rw [withSign, withSign, if_pos rfl, if_pos rfl] at h
  have hx0 : withSign false (x * (2 : ℝ) ^ i) = 0 := withSign_eq_zero_iff.mpr (by linarith)
  have hy0 : withSign false (y * (2 : ℝ) ^ j) = 0 := withSign_eq_zero_iff.mpr (by linarith)
  exact ⟨number_finite_eq_zero_iff.mp hx0, number_finite_eq_zero_iff.mp hy0⟩

/-- The sum of values is rounded once (45_fpu.md R510). -/
theorem answerRounds_addValues (hf : f.Proper) :
    AnswerRounds f toZero dn (exactSum a.number b.number) (f.addValues toZero dn a b) := by
  cases a with
  | nan => cases b <;> rfl
  | infinite s =>
    cases b with
    | nan => rfl
    | infinite t =>
      by_cases hst : s = t
      · simpa [FpValue.number, exactSum, FpFormat.addValues, hst] using answerRounds_inf
      · simp [FpValue.number, exactSum, FpFormat.addValues, hst, AnswerRounds]
    | finite => exact answerRounds_inf
  | finite s x i =>
    cases b with
    | nan => rfl
    | infinite => exact answerRounds_inf
    | finite t y j =>
      have hsum := signedAt_add (s := s) (t := t) (x := x) (y := y) (i := i) (j := j)
      refine answerRounds_num (roundsTo_roundInt hf hsum.symm ?_)
      rw [← hsum]
      simp only [scaled_eq_zero_iff, scaled_neg_iff]
      split
      · next hz =>
        rw [hz, Int.cast_zero, zero_mul] at hsum
        by_cases hneg : s = true ∧ t = true
        · obtain ⟨rfl, rfl⟩ := hneg
          obtain ⟨rfl, rfl⟩ := zeros_of_negative_sum hsum.symm
          rfl
        · have hpositive : (s && t) = false := by simpa using hneg
          rw [hpositive, Bool.false_and, Bool.false_and]
      · rfl

/-- The quotient of integers, cut to one, with what is left told apart from nothing, is an exact magnitude as soon as it
is long enough. -/
theorem isExact_quotient {d : Nat} (hd : 0 < d) (hlong : 2 ^ (f.frac + 2) ≤ n / d) :
    IsExact f (n % d != 0) (n / d) e ((n : ℝ) / d * (2 : ℝ) ^ e) := by
  have hpow : (0 : ℝ) < (2 : ℝ) ^ e := by positivity
  have hd' : (0 : ℝ) < d := by exact_mod_cast hd
  have hsplit : (n : ℝ) = d * (n / d : Nat) + (n % d : Nat) := by exact_mod_cast (Nat.div_add_mod n d).symm
  rw [IsExact]
  by_cases hrest : n % d = 0
  · have hquot : ((n / d : Nat) : ℝ) = (n : ℝ) / d := Nat.cast_div (Nat.dvd_of_mod_eq_zero hrest) hd'.ne'
    simp [hrest, hquot]
  · have hpos : (0 : ℝ) < (n % d : Nat) := by exact_mod_cast Nat.pos_of_ne_zero hrest
    have hlt : ((n % d : Nat) : ℝ) < d := by exact_mod_cast Nat.mod_lt n hd
    rw [if_pos (by simpa using hrest)]
    refine ⟨hlong, ?_, ?_⟩
    · gcongr
      rw [lt_div_iff₀ hd']
      linarith
    · gcongr
      rw [div_lt_iff₀ hd']
      push_cast
      linarith

/-- Shifted by the bits of the divisor and as many as a result looks at, the quotient is long enough. -/
theorem long_quotient {x y : Nat} (hx : 0 < x) (hy : 0 < y) :
    2 ^ (f.frac + 2) ≤ x * 2 ^ (f.frac + 3 + Nat.log2 y) / y := by
  have hylt : y < 2 ^ (Nat.log2 y + 1) := Nat.lt_log2_self
  rw [Nat.le_div_iff_mul_le hy]
  calc 2 ^ (f.frac + 2) * y
    _ ≤ 2 ^ (f.frac + 2) * 2 ^ (Nat.log2 y + 1) := Nat.mul_le_mul_left _ hylt.le
    _ = 1 * 2 ^ (f.frac + 3 + Nat.log2 y) := by rw [one_mul, ← pow_add]; congr 1; omega
    _ ≤ x * 2 ^ (f.frac + 3 + Nat.log2 y) := Nat.mul_le_mul_right _ hx

theorem quotient_scaled {x y : Nat} {k : Nat} :
    ((x * 2 ^ k : Nat) : ℝ) / y * (2 : ℝ) ^ (i - j - (k : Int)) = (x : ℝ) * (2 : ℝ) ^ i / (y * (2 : ℝ) ^ j) := by
  rw [zpow_sub₀ two_ne_zero, zpow_sub₀ two_ne_zero, zpow_natCast]
  push_cast
  field_simp

/-- The quotient of values is rounded once (45_fpu.md R513). -/
theorem answerRounds_divValues (hf : f.Proper) :
    AnswerRounds f toZero dn (exactQuotient a.number b.number) (f.divValues toZero dn a b) := by
  cases a with
  | nan => cases b <;> rfl
  | infinite s =>
    cases b with
    | nan | infinite => rfl
    | finite => exact answerRounds_inf
  | finite s x i =>
    cases b with
    | nan => rfl
    | infinite => exact answerRounds_num roundsTo_zero
    | finite t y j =>
      simp only [FpValue.number, exactQuotient, FpFormat.divValues, number_finite_eq_zero_iff]
      by_cases hy : y = 0
      · by_cases hx : x = 0
        · simp [hy, hx, AnswerRounds]
        · simpa [hy, hx] using answerRounds_inf
      · have hypos := Nat.pos_of_ne_zero hy
        rw [if_neg hy, if_neg hy, withSign_div, ← quotient_scaled (k := f.frac + 3 + Nat.log2 y)]
        refine answerRounds_num ?_
        by_cases hx : x = 0
        · simpa [hx, FpFormat.round] using roundsTo_zero
        · have hlong := long_quotient (f := f) (Nat.pos_of_ne_zero hx) hypos
          have hpos : 0 < x * 2 ^ (f.frac + 3 + Nat.log2 y) / y := lt_of_lt_of_le (by positivity) hlong
          exact roundsTo_round hf hpos (isExact_quotient hypos hlong)

/-! ### The square root -/

/-- Bit by bit, the greatest number whose square is not above `n`. -/
theorem isqrtFrom_spec (k r : Nat) (hlow : r * r ≤ n) (hhigh : n < (r + 2 ^ k) * (r + 2 ^ k)) :
    isqrtFrom n k r * isqrtFrom n k r ≤ n ∧ n < (isqrtFrom n k r + 1) * (isqrtFrom n k r + 1) := by
  induction k generalizing r with
  | zero => exact ⟨hlow, hhigh⟩
  | succ k ih =>
    rw [isqrtFrom]
    split
    · next hbit => exact ih _ hbit (by rwa [add_assoc, ← two_mul, ← pow_succ'])
    · next hbit => exact ih _ hlow (Nat.lt_of_not_le hbit)

theorem isqrt_eq_sqrt (n : Nat) : isqrt n = Nat.sqrt n := by
  have hstart : n < (0 + 2 ^ (Nat.log2 n / 2 + 1)) * (0 + 2 ^ (Nat.log2 n / 2 + 1)) :=
    calc n
      _ < 2 ^ (Nat.log2 n + 1) := Nat.lt_log2_self
      _ ≤ 2 ^ (Nat.log2 n / 2 + 1 + (Nat.log2 n / 2 + 1)) := Nat.pow_le_pow_right (by decide) (by omega)
      _ = (0 + 2 ^ (Nat.log2 n / 2 + 1)) * (0 + 2 ^ (Nat.log2 n / 2 + 1)) := by rw [pow_add, zero_add]
  obtain ⟨hlow, hhigh⟩ := isqrtFrom_spec _ 0 (Nat.zero_le n) hstart
  exact Nat.eq_sqrt.mpr ⟨hlow, hhigh⟩

/-- The root of an integer, cut to one, with what is left told apart from nothing, is an exact magnitude as soon as it
is long enough. -/
theorem isExact_root (hlong : 2 ^ (f.frac + 2) ≤ isqrt n) :
    IsExact f (isqrt n * isqrt n != n) (isqrt n) e (Real.sqrt n * (2 : ℝ) ^ e) := by
  have hpow : (0 : ℝ) < (2 : ℝ) ^ e := by positivity
  rw [IsExact]
  by_cases hsquare : isqrt n * isqrt n = n
  · have hroot : Real.sqrt n = isqrt n := by
      rw [← hsquare, Nat.cast_mul, hsquare, Real.sqrt_mul_self (Nat.cast_nonneg _)]
    simp [hsquare, hroot]
  · rw [if_pos (by simpa using hsquare)]
    have hlow : ((isqrt n : Nat) : ℝ) < Real.sqrt n := by
      have hle : isqrt n * isqrt n ≤ n := isqrt_eq_sqrt n ▸ Nat.sqrt_le n
      refine Real.lt_sqrt_of_sq_lt ?_
      rw [sq]
      exact_mod_cast lt_of_le_of_ne hle hsquare
    have hhigh : Real.sqrt n < ((isqrt n + 1 : Nat) : ℝ) := by
      have hlt : n < (isqrt n + 1) * (isqrt n + 1) := isqrt_eq_sqrt n ▸ Nat.lt_succ_sqrt n
      rw [Real.sqrt_lt' (by positivity), sq]
      exact_mod_cast hlt
    exact ⟨hlong, by gcongr, by gcongr⟩

theorem long_root {x k : Nat} (hx : 0 < x) (hk : 2 * (f.frac + 3) ≤ k) : 2 ^ (f.frac + 2) ≤ isqrt (x * 2 ^ k) := by
  rw [isqrt_eq_sqrt, Nat.le_sqrt, ← pow_add]
  calc 2 ^ (f.frac + 2 + (f.frac + 2))
    _ ≤ 1 * 2 ^ k := by rw [one_mul]; exact Nat.pow_le_pow_right (by decide) (by omega)
    _ ≤ x * 2 ^ k := Nat.mul_le_mul_right _ hx

/-- The shift makes the exponent even, so that half of it is the exponent of the root. -/
theorem root_scaled {x k : Nat} (heven : (e - (k : Int)) % 2 = 0) :
    Real.sqrt ((x * 2 ^ k : Nat) : ℝ) * (2 : ℝ) ^ ((e - (k : Int)) / 2) = Real.sqrt ((x : ℝ) * (2 : ℝ) ^ e) := by
  have hexp : e = (k : Int) + ((e - (k : Int)) / 2 + (e - (k : Int)) / 2) := by omega
  have hpow : (2 : ℝ) ^ e = (2 : ℝ) ^ k * ((2 : ℝ) ^ ((e - (k : Int)) / 2)) ^ 2 := by
    rw [sq, ← zpow_add₀ two_ne_zero, ← zpow_natCast, ← zpow_add₀ two_ne_zero, ← hexp]
  rw [hpow, ← mul_assoc, Real.sqrt_mul (by positivity), Real.sqrt_sq (by positivity)]
  push_cast
  rfl

/-- The root of a value is rounded once (45_fpu.md R518). -/
theorem answerRounds_sqrtValue (hf : f.Proper) :
    AnswerRounds f toZero dn (exactRoot a.number) (f.sqrtValue toZero dn a) := by
  cases a with
  | nan => rfl
  | infinite s =>
    cases s with
    | false => exact answerRounds_inf
    | true => rfl
  | finite s x e =>
    simp only [FpValue.number, exactRoot, FpFormat.sqrtValue, number_finite_eq_zero_iff]
    by_cases hx : x = 0
    · simpa [hx] using answerRounds_num roundsTo_zero
    · cases s with
      | true => simp [hx, AnswerRounds]
      | false =>
        simp only [hx, if_false, Bool.false_eq_true]
        have hxpos := Nat.pos_of_ne_zero hx
        have hlong := long_root (f := f) (k := 2 * (f.frac + 3) + (e % 2).toNat) hxpos (by omega)
        have hexact := isExact_root (f := f) (e := (e - ((2 * (f.frac + 3) + (e % 2).toNat : Nat) : Int)) / 2) hlong
        rw [root_scaled (by omega)] at hexact
        exact answerRounds_num (roundsTo_round (sign := false) hf (lt_of_lt_of_le (by positivity) hlong) hexact)

end

end Sys2Proof.Machine
end

section
/-! PROOF. The named functions on patterns: arithmetic, comparison and conversion, by the numbers the patterns stand for
(45_fpu.md R510 to R515, R518, R519, R532, R533, R536, R545). -/

namespace Sys2Proof.Machine

open Sys2Proof.Safety

/-- A function of two patterns rounds what `exact` gives of their numbers. -/
def Computes (op : FpOp) (exact : Extended → Extended → Extended) : Prop :=
  ∀ (f : FpFormat) (toZero dn : Bool) (a b : Nat), f.Proper →
    AnswerRounds f toZero dn (exact (numberOf f dn a) (numberOf f dn b)) (op f toZero dn a b)

section
variable {f g : FpFormat} {toZero dn s : Bool} {sig a b c n r : Nat} {e : Int} {x v : ℝ} {w : Extended}

/-! ### Arithmetic -/

theorem numberOf_of_isNan (h : f.isNan n = true) : numberOf f dn n = .nan := by
  obtain ⟨hmax, hfrac⟩ : f.expField n = f.maxExp ∧ f.fracField n ≠ 0 := by simpa [FpFormat.isNan] using h
  rw [numberOf, if_pos hmax, if_neg hfrac]

theorem computes_add : Computes FpFormat.add exactSum := by
  intro f toZero dn a b hf
  rw [numberOf_eq_number, numberOf_eq_number]
  exact answerRounds_addValues hf

theorem computes_sub : Computes FpFormat.sub exactDifference := by
  intro f toZero dn a b hf
  rw [numberOf_eq_number, numberOf_eq_number, exactDifference, ← number_neg]
  exact answerRounds_addValues hf

theorem computes_mul : Computes FpFormat.mul exactProduct := by
  intro f toZero dn a b hf
  rw [numberOf_eq_number, numberOf_eq_number, ← number_mul]
  exact answerRounds_roundValue hf

theorem computes_div : Computes FpFormat.div exactQuotient := by
  intro f toZero dn a b hf
  rw [numberOf_eq_number, numberOf_eq_number]
  exact answerRounds_divValues hf

theorem answerRounds_sqrt (hf : f.Proper) :
    AnswerRounds f toZero dn (exactRoot (numberOf f dn a)) (f.sqrt toZero dn a) := by
  rw [numberOf_eq_number]
  exact answerRounds_sqrtValue hf

/-- Fused, the product is not rounded before the sum (45_fpu.md R519). -/
theorem answerRounds_mac_fused (hf : f.Proper) :
    AnswerRounds f toZero dn (exactSum (exactProduct (numberOf f dn a) (numberOf f dn b)) (numberOf f dn c))
      (f.mac true toZero dn a b c) := by
  rw [numberOf_eq_number, numberOf_eq_number, numberOf_eq_number, ← number_mul]
  exact answerRounds_addValues hf

/-- Not fused, the product is rounded to a pattern; where it is none, no sum is (45_fpu.md R519). -/
theorem answerRounds_mac_unfused (hf : f.Proper) :
    ∃ product, RoundsTo f toZero dn (exactProduct (numberOf f dn a) (numberOf f dn b)) product ∧
      AnswerRounds f toZero dn (exactSum (numberOf f dn product) (numberOf f dn c)) (f.mac false toZero dn a b c) := by
  have hmul := computes_mul f toZero dn a b hf
  rw [FpFormat.mac, if_neg Bool.false_ne_true]
  cases hproduct : f.mul toZero dn a b with
  | none =>
    rw [hproduct] at hmul
    have hnan := isNan_nanFrom hf 0
    refine ⟨f.nanFrom 0, ?_, ?_⟩
    · rw [show exactProduct (numberOf f dn a) (numberOf f dn b) = .nan from hmul]
      exact hnan
    · rw [numberOf_of_isNan hnan]
      cases numberOf f dn c <;> rfl
  | some p =>
    rw [hproduct] at hmul
    exact ⟨p, hmul.2, computes_add f toZero dn p c hf⟩

/-- An integer is rounded once (45_fpu.md R532). -/
theorem roundsTo_ofSigned (hf : f.Proper) (z : Int) :
    RoundsTo f toZero dn (numberOfInt z) (f.ofSigned toZero dn z) := by
  refine roundsTo_roundInt hf (by simp) ?_
  split
  · next hz => simp [hz]
  · rfl

/-! ### Comparison -/

/-- The pattern below its sign that a comparison looks at: with DN = 1 a denormal is a zero. -/
def FpFormat.compared (f : FpFormat) (dn : Bool) (n : Nat) : Nat :=
  if dn && f.expField n == 0 then 0 else n % 2 ^ f.signAt

/-- The place of a pattern among the reals, where an infinity stands beyond every finite pattern. -/
noncomputable def orderValue (f : FpFormat) (dn : Bool) (n : Nat) : ℝ :=
  withSign (f.sign n) (magnitude f (f.compared dn n))

theorem compared_mod_signAt (f : FpFormat) (dn : Bool) (n : Nat) :
    f.compared dn n % 2 ^ f.signAt = f.compared dn n := by
  rw [FpFormat.compared]
  split
  · exact Nat.zero_mod _
  · exact Nat.mod_mod _ _

theorem magnitude_zero (f : FpFormat) : magnitude f 0 = 0 := by simp [magnitude, FpFormat.expField, FpFormat.fracField]

theorem magnitude_compared_lt_iff :
    magnitude f (f.compared dn a) < magnitude f (f.compared dn b) ↔ f.compared dn a < f.compared dn b := by
  rw [magnitude_lt_iff, compared_mod_signAt, compared_mod_signAt]

theorem magnitude_compared_pos_iff : 0 < magnitude f (f.compared dn a) ↔ 0 < f.compared dn a := by
  rw [← magnitude_zero f, magnitude_lt_iff, compared_mod_signAt, Nat.zero_mod]

/-- Integers and reals under the same signs are ordered alike where their magnitudes are. -/
theorem signed_lt_iff {s t : Bool} {v w : ℝ} (hv : 0 ≤ v) (hw : 0 ≤ w) (hlt : v < w ↔ a < b) (hgt : w < v ↔ b < a)
    (hv0 : 0 < v ↔ 0 < a) (hw0 : 0 < w ↔ 0 < b) :
    (if s then -(a : Int) else (a : Int)) < (if t then -(b : Int) else (b : Int)) ↔
      withSign s v < withSign t w := by
  rw [withSign, withSign]
  cases s with
  | false =>
    cases t with
    | false => simpa using hlt.symm
    | true =>
      simp only [Bool.false_eq_true, if_false, if_true]
      exact iff_of_false (by omega) (by linarith)
  | true =>
    cases t with
    | false =>
      simp only [Bool.false_eq_true, if_false, if_true]
      constructor
      · intro h
        rcases Nat.eq_zero_or_pos a with ha | ha
        · have := hw0.mpr (by omega)
          linarith
        · have := hv0.mpr ha
          linarith
      · intro h
        rcases hv.eq_or_lt with hv | hv
        · have := hw0.mp (by linarith)
          omega
        · have := hv0.mp hv
          omega
    | true => simpa using hgt.symm

/-- The keys are ordered as the numbers are: both are odd in the sign, and grow with the rest of the pattern. -/
theorem key_lt_iff : f.key dn a < f.key dn b ↔ orderValue f dn a < orderValue f dn b :=
  signed_lt_iff (magnitude_nonneg ..) (magnitude_nonneg ..) magnitude_compared_lt_iff magnitude_compared_lt_iff
    magnitude_compared_pos_iff magnitude_compared_pos_iff

theorem key_eq_iff : f.key dn a = f.key dn b ↔ orderValue f dn a = orderValue f dn b := by
  have hlt := key_lt_iff (f := f) (dn := dn) (a := a) (b := b)
  have hgt := key_lt_iff (f := f) (dn := dn) (a := b) (b := a)
  rw [le_antisymm_iff, le_antisymm_iff, ← not_lt, ← not_lt, hlt, hgt, not_lt, not_lt]

theorem numberOf_of_finite (h : isFinite f n) : numberOf f dn n = .num (f.sign n) (orderValue f dn n) := by
  rw [numberOf, if_neg h, orderValue, FpFormat.compared]
  by_cases hflush : dn = true ∧ f.expField n = 0
  · simp [hflush, magnitude_zero]
  · have hcompared : ¬ (dn && f.expField n == 0) = true := by simpa using hflush
    rw [if_neg hflush, if_neg hcompared, magnitude_mod_signAt, withSign]

/-- Where a finite pattern stands, and where an infinity. -/
theorem abs_orderValue_lt (hf : f.Proper) (h : isFinite f n) : |orderValue f dn n| < f.infinityMagnitude := by
  rw [orderValue, abs_withSign, abs_of_nonneg (magnitude_nonneg ..), FpFormat.compared]
  split
  · rw [magnitude_zero, FpFormat.infinityMagnitude]
    positivity
  · rw [magnitude_mod_signAt]
    exact hf.magnitude_lt_infinity h

theorem numberOf_of_infinity (h : f.expField n = f.maxExp) (hfrac : f.fracField n = 0) :
    numberOf f dn n = .inf (f.sign n) := by
  rw [numberOf, if_pos h, if_pos hfrac]

theorem orderValue_of_infinity (hf : f.Proper) (h : f.expField n = f.maxExp) (hfrac : f.fracField n = 0) :
    orderValue f dn n = withSign (f.sign n) f.infinityMagnitude := by
  have hmax := hf.two_le_maxExp
  have hpos := zero_lt_two_pow_frac f
  have hcompared : ¬ (dn && f.expField n == 0) = true := by simp; omega
  have hmagnitude : magnitude f n = f.infinityMagnitude := by
    rw [← hf.magnitude_inf (sign := false), magnitude_eq_iff, f.mod_signAt, h, hfrac, FpFormat.inf,
      FpFormat.pack_mod_signAt le_rfl hpos]
  rw [orderValue, FpFormat.compared, if_neg hcompared, magnitude_mod_signAt, hmagnitude]

/-- What is no NaN stands at its number, or, an infinity, beyond every number. -/
theorem number_stands (hf : f.Proper) (h : f.isNan n = false) :
    (∃ s v, numberOf f dn n = .num s v ∧ orderValue f dn n = v ∧ -f.infinityMagnitude < v ∧ v < f.infinityMagnitude) ∨
      ∃ s, numberOf f dn n = .inf s ∧
        orderValue f dn n = withSign s f.infinityMagnitude := by
  by_cases hmax : f.expField n = f.maxExp
  · have hfrac : f.fracField n = 0 := by simpa [FpFormat.isNan, hmax] using h
    exact .inr ⟨_, numberOf_of_infinity hmax hfrac, orderValue_of_infinity hf hmax hfrac⟩
  · obtain ⟨hlow, hhigh⟩ := abs_lt.mp (abs_orderValue_lt (dn := dn) hf hmax)
    exact .inl ⟨_, _, numberOf_of_finite hmax, rfl, hlow, hhigh⟩

theorem FpFormat.infinityMagnitude_pos (f : FpFormat) : 0 < f.infinityMagnitude := by
  rw [FpFormat.infinityMagnitude]
  positivity

/-- Of patterns that are no NaN, the lesser number stands lower. -/
theorem numberLess_iff (hf : f.Proper) (ha : f.isNan a = false) (hb : f.isNan b = false) :
    NumberLess (numberOf f dn a) (numberOf f dn b) ↔ orderValue f dn a < orderValue f dn b := by
  have hpos := f.infinityMagnitude_pos
  rcases number_stands (dn := dn) hf ha with ⟨s, v, hna, hva, hlow, hhigh⟩ | ⟨s, hna, hva⟩
  · rcases number_stands (dn := dn) hf hb with ⟨t, w, hnb, hvb, -, -⟩ | ⟨t, hnb, hvb⟩
    · rw [hna, hnb, hva, hvb, NumberLess]
    · rw [hna, hnb, hva, hvb, NumberLess]
      cases t with
      | false => simpa [withSign] using hhigh
      | true => simpa [withSign] using hlow.le
  · rcases number_stands (dn := dn) hf hb with ⟨t, w, hnb, hvb, hlow, hhigh⟩ | ⟨t, hnb, hvb⟩
    · rw [hna, hnb, hva, hvb, NumberLess]
      cases s with
      | false => simpa [withSign] using hhigh.le
      | true => simpa [withSign] using hlow
    · rw [hna, hnb, hva, hvb, NumberLess]
      cases s <;> cases t <;> simp [withSign] <;> linarith

/-- Of patterns that are no NaN, equal numbers stand at one place. -/
theorem numbersEqual_iff (hf : f.Proper) (ha : f.isNan a = false) (hb : f.isNan b = false) :
    NumbersEqual (numberOf f dn a) (numberOf f dn b) ↔ orderValue f dn a = orderValue f dn b := by
  have hpos := f.infinityMagnitude_pos
  rcases number_stands (dn := dn) hf ha with ⟨s, v, hna, hva, hlow, hhigh⟩ | ⟨s, hna, hva⟩
  · rcases number_stands (dn := dn) hf hb with ⟨t, w, hnb, hvb, -, -⟩ | ⟨t, hnb, hvb⟩
    · rw [hna, hnb, hva, hvb, NumbersEqual]
    · rw [hna, hnb, hva, hvb]
      refine iff_of_false id ?_
      cases t with
      | false => exact hhigh.ne
      | true => exact hlow.ne'
  · rcases number_stands (dn := dn) hf hb with ⟨t, w, hnb, hvb, hlow, hhigh⟩ | ⟨t, hnb, hvb⟩
    · rw [hna, hnb, hva, hvb]
      refine iff_of_false id ?_
      cases s with
      | false => exact hhigh.ne'
      | true => exact hlow.ne
    · rw [hna, hnb, hva, hvb, NumbersEqual]
      cases s <;> cases t <;> simp [withSign] <;> linarith

theorem not_numbersEqual_nan : ¬ NumbersEqual .nan w ∧ ¬ NumbersEqual w .nan := by
  cases w <;> exact ⟨id, id⟩

theorem not_numberLess_nan : ¬ NumberLess .nan w ∧ ¬ NumberLess w .nan := by
  cases w <;> exact ⟨id, id⟩

/-- Equality of patterns is that of their numbers; a NaN equals nothing (45_fpu.md R514). -/
theorem eq_iff_numbersEqual (hf : f.Proper) :
    f.eq dn a b = true ↔ NumbersEqual (numberOf f dn a) (numberOf f dn b) := by
  rw [FpFormat.eq]
  rcases Bool.eq_false_or_eq_true (f.isNan a) with ha | ha
  · rw [numberOf_of_isNan ha, ha]
    exact iff_of_false (by simp) not_numbersEqual_nan.1
  · rcases Bool.eq_false_or_eq_true (f.isNan b) with hb | hb
    · rw [numberOf_of_isNan hb, hb]
      exact iff_of_false (by simp) not_numbersEqual_nan.2
    · rw [numbersEqual_iff hf ha hb, ← key_eq_iff, ha, hb]
      simp

/-- The order of patterns is that of their numbers; a NaN is greater than nothing (45_fpu.md R515). -/
theorem gt_iff_numberLess (hf : f.Proper) :
    f.gt dn a b = true ↔ NumberLess (numberOf f dn b) (numberOf f dn a) := by
  rw [FpFormat.gt]
  rcases Bool.eq_false_or_eq_true (f.isNan a) with ha | ha
  · rw [numberOf_of_isNan ha, ha]
    exact iff_of_false (by simp) not_numberLess_nan.2
  · rcases Bool.eq_false_or_eq_true (f.isNan b) with hb | hb
    · rw [numberOf_of_isNan hb, hb]
      exact iff_of_false (by simp) not_numberLess_nan.1
    · rw [numberLess_iff hf hb ha, ← key_lt_iff, ha, hb]
      simp

/-! ### Truncation to an integer -/

/-- A scaled significand without its fraction. -/
theorem floor_scaled :
    ⌊(sig : ℝ) * (2 : ℝ) ^ e⌋ = ((if 0 ≤ e then sig * 2 ^ e.toNat else sig / 2 ^ (-e).toNat : Nat) : Int) := by
  split
  · next he =>
    have hpow : (2 : ℝ) ^ e = (2 : ℝ) ^ e.toNat := by rw [← zpow_natCast, Int.toNat_of_nonneg he]
    rw [hpow]
    exact_mod_cast Int.floor_natCast (R := ℝ) (sig * 2 ^ e.toNat)
  · next he =>
    have hpow : (2 : ℝ) ^ e = ((2 ^ (-e).toNat : Nat) : ℝ)⁻¹ := by
      rw [Nat.cast_pow, Nat.cast_ofNat, ← zpow_natCast, ← zpow_neg, Int.toNat_of_nonneg (by omega), neg_neg]
    rw [hpow, ← div_eq_mul_inv, Int.floor_div_natCast, Int.floor_natCast, Int.natCast_ediv]

/-- The fraction is discarded of the magnitude, whatever the sign (45_fpu.md R533). -/
theorem wholePart_withSign (hv : 0 ≤ v) : wholePart (withSign s v) = if s then -⌊v⌋ else ⌊v⌋ := by
  cases s with
  | false => exact if_pos hv
  | true =>
    simp only [withSign, if_true, wholePart]
    split
    · next h =>
      have hzero : v = 0 := le_antisymm (by linarith) hv
      simp [hzero]
    · exact Int.ceil_neg

/-- A number is truncated to its whole part, where that is in range (45_fpu.md R533). -/
theorem truncate_eq (h : numberOf f dn n = .num s v) :
    f.truncate dn n = if outOfSigned (wholePart v) then none else some (wholePart v) := by
  rw [numberOf_eq_number] at h
  rw [FpFormat.truncate]
  cases hunpack : f.unpack dn n with
  | nan | infinite =>
    rw [hunpack] at h
    cases h
  | finite t sig e =>
    rw [hunpack, FpValue.number] at h
    cases h
    rw [wholePart_withSign (by positivity), floor_scaled]

theorem toInt_truncated {z : Int} (hlow : -2 ^ 31 ≤ z) (hhigh : z < 2 ^ 31) (k : Nat) :
    (truncated (some z) k).toInt = z := by
  rw [truncated, BitVec.toInt_ofInt]
  exact Int.bmod_eq_of_le (by omega) (by omega)

theorem toInt_truncated_truncate (h : numberOf f dn n = .num s v) (hlow : -2 ^ 31 ≤ wholePart v)
    (hhigh : wholePart v < 2 ^ 31) (k : Nat) : (truncated (f.truncate dn n) k).toInt = wholePart v := by
  have hin : ¬ outOfSigned (wholePart v) = true := by
    simp only [outOfSigned, Bool.or_eq_true, decide_eq_true_eq]
    omega
  rw [truncate_eq h, if_neg hin, toInt_truncated hlow hhigh]

/-! ### Conversion between the formats -/

theorem answerRounds_convert (hg : g.Proper) :
    AnswerRounds g toZero dn (numberOf f dn n) (f.convert g toZero dn n) := by
  rw [numberOf_eq_number]
  exact answerRounds_roundValue hg

/-- The rounding modes differ in assembling only where there is no finite pattern. -/
theorem assemble_toZero {u : Int} (hf : f.Proper) (hu : f.minUlp ≤ u) (hr : r ≤ 2 ^ (f.frac + 1))
    (hin : r * (2 : ℝ) ^ u < f.infinityMagnitude) :
    f.assemble toZero dn s r u = f.assemble false dn s r u := by
  rcases Nat.lt_or_ge r (2 ^ f.frac) with hlt | hfull
  · rw [FpFormat.assemble_denormal hlt, FpFormat.assemble_denormal hlt]
  · obtain ⟨k, m, -, -, -, hvalue, hassemble⟩ := exists_fields hf hu hfull hr
    have hfinite : ¬ f.maxExp ≤ k := fun hover => by
      rw [← hvalue] at hin
      refine absurd hin (not_lt.mpr ?_)
      rw [FpFormat.infinityMagnitude]
      push_cast
      gcongr
      · exact le_add_of_nonneg_right (Nat.cast_nonneg m)
      · exact one_le_two
    rw [hassemble, hassemble, if_neg hfinite, if_neg hfinite]

/-- A value that has a pattern of its own is rounded alike in both modes. -/
theorem round_toZero (hf : f.Proper) (hplace : f.ulpOf sig e < e) (hin : sig * (2 : ℝ) ^ e < f.infinityMagnitude) :
    f.round toZero dn s false sig e = f.round false dn s false sig e := by
  by_cases hsig : sig = 0
  · rw [FpFormat.round, FpFormat.round, if_pos hsig, if_pos hsig]
  · have hsuits := suitsPlace_ulpOf (f := f) (e := e) (δ := 0) (sticky := false) (Nat.pos_of_ne_zero hsig) rfl
    have hrounds := roundedSignificand_roundsToInt (f := f) (toZero := false) (sig := sig) (e := e) (δ := 0)
      (sticky := false) rfl nofun
    have hle := hsuits.rounded_le hrounds
    have hwhole : ∀ toZero, f.roundedSignificand toZero false sig e = sig * 2 ^ (e - f.ulpOf sig e).toNat :=
      fun _ => if_neg (not_le.mpr hplace)
    rw [FpFormat.round_eq (Nat.pos_of_ne_zero hsig), FpFormat.round_eq (Nat.pos_of_ne_zero hsig), hwhole, hwhole]
    rw [hwhole] at hle
    refine assemble_toZero hf hsuits.minUlp_le hle ?_
    rw [two_zpow_toNat hplace.le, ← mul_assoc] at hin
    exact_mod_cast hin

/-- Every single has a pattern among the doubles. -/
theorem single_fits_double (h : isFinite .single n) (hsig : sig ≤ FpFormat.single.significand n) :
    FpFormat.double.ulpOf sig (FpFormat.single.lastPlace n) < FpFormat.single.lastPlace n ∧
      sig * (2 : ℝ) ^ FpFormat.single.lastPlace n < FpFormat.double.infinityMagnitude := by
  have hsig_lt : sig < 2 ^ 24 := lt_of_le_of_lt hsig (FpFormat.single.significand_lt n)
  have hsig_lt' : (sig : ℝ) < (2 : ℝ) ^ (24 : Int) := by exact_mod_cast hsig_lt
  have hlow : -149 ≤ FpFormat.single.lastPlace n := FpFormat.single.minUlp_le_lastPlace n
  have hhigh : FpFormat.single.lastPlace n ≤ 104 := by
    have hexp : FpFormat.single.expField n < 255 := lt_of_le_of_ne (FpFormat.single.expField_le n) h
    have hmin : FpFormat.single.minUlp = -149 := rfl
    rw [FpFormat.lastPlace, hmin]
    omega
  have hfrac : FpFormat.double.frac = 52 := rfl
  have hmin : FpFormat.double.minUlp = -1074 := rfl
  have hmax : FpFormat.double.maxExp = 2047 := rfl
  have htop : FpFormat.double.minUlp + FpFormat.double.maxExp - 1 = 972 := by
    rw [hmin, hmax]
    norm_num
  have hinf : FpFormat.double.infinityMagnitude = (2 : ℝ) ^ 52 * (2 : ℝ) ^ (972 : Int) := by
    rw [FpFormat.infinityMagnitude, htop, hfrac]
  constructor
  · have hlog : Nat.log2 sig ≤ 23 := by
      by_cases h0 : sig = 0
      · rw [h0]
        decide
      · exact Nat.le_of_lt_succ ((Nat.log2_lt h0).mpr hsig_lt)
    rw [FpFormat.ulpOf, hmin, hfrac]
    omega
  · calc (sig : ℝ) * (2 : ℝ) ^ FpFormat.single.lastPlace n
      _ < (2 : ℝ) ^ (24 : Int) * (2 : ℝ) ^ FpFormat.single.lastPlace n := by gcongr
      _ = (2 : ℝ) ^ (24 + FpFormat.single.lastPlace n) := (zpow_add₀ two_ne_zero _ _).symm
      _ ≤ (2 : ℝ) ^ ((52 : Nat) + 972 : Int) := zpow_le_zpow_right₀ one_le_two (by push_cast; omega)
      _ = FpFormat.double.infinityMagnitude := by rw [hinf, zpow_add₀ two_ne_zero, zpow_natCast]

/-- Widening is exact, so no rounding mode matters (45_fpu.md R536). -/
theorem convert_widening :
    FpFormat.convert .single .double toZero dn n = FpFormat.convert .single .double false dn n := by
  rw [FpFormat.convert, FpFormat.convert]
  by_cases hfinite : isFinite .single n
  · have hsig : (if dn = true ∧ FpFormat.single.expField n = 0 then 0 else FpFormat.single.significand n) ≤
        FpFormat.single.significand n := by
      split
      · exact Nat.zero_le _
      · exact le_rfl
    obtain ⟨hplace, hin⟩ := single_fits_double hfinite hsig
    rw [unpack_of_finite hfinite]
    exact congrArg some (round_toZero FpFormat.proper_double hplace hin)
  · have hmax : FpFormat.single.expField n = FpFormat.single.maxExp := not_not.mp hfinite
    rw [FpFormat.unpack, if_pos hmax]
    split <;> rfl

theorem answerRounds_widening :
    AnswerRounds .double toZero dn (numberOf .single dn n) (FpFormat.convert .single .double false dn n) :=
  convert_widening (toZero := toZero) ▸ answerRounds_convert FpFormat.proper_double

end

end Sys2Proof.Machine
end

section
/-! PROOF. The floating-point arithmetic, comparisons and conversions: each instruction writes what its function answers
for the operands that FPSCR.PR names (45_fpu.md R503 to R505, R510 to R515, R518 to R520, R532, R533, R536, R545). -/

namespace Sys2Proof.Machine

open Sys2Proof.Safety

/-- What a function answers in each format, written under FPSCR.PR with a NaN drawn where there is no answer. -/
def State.setAnswer (s : State) (r : FReg) (answerIn : FpFormat → Option Nat) : State :=
  (s.setFp r (singleBits (answerIn .single) s.free) (doubleBits (answerIn .double) s.free)).drawn

section
variable {s t u : State} {i : Instr} {r ra rb rn : FReg} {n : Nat} {b toZero dn : Bool} {x : Extended}
  {answer : Option Nat} {answerIn : FpFormat → Option Nat} {exact : Extended → Extended → Extended}

/-! ### Results in registers -/

theorem proper_fpFormat (s : State) : (fpFormat s).Proper := by
  rw [fpFormat]
  split
  · exact FpFormat.proper_double
  · exact FpFormat.proper_single

theorem roundsTo_singleBits (h : AnswerRounds .single toZero dn x answer) (n : Nat) :
    RoundsTo .single toZero dn x (singleBits answer n).toNat := by
  obtain ⟨hrounds, hlt⟩ := h.roundsTo_fpBits FpFormat.proper_single n
  have hbits : (singleBits answer n).toNat = fpBits .single answer n := by
    rw [singleBits, BitVec.toNat_ofNat]
    exact Nat.mod_eq_of_lt hlt
  rwa [hbits]

theorem roundsTo_doubleBits (h : AnswerRounds .double toZero dn x answer) (n : Nat) :
    RoundsTo .double toZero dn x (doubleBits answer n).toNat := by
  obtain ⟨hrounds, hlt⟩ := h.roundsTo_fpBits FpFormat.proper_double n
  have hbits : (doubleBits answer n).toNat = fpBits .double answer n := by
    rw [doubleBits, BitVec.toNat_ofNat]
    exact Nat.mod_eq_of_lt hlt
  rwa [hbits]

/-- A register written with the answers in both formats holds the rounding in the one FPSCR.PR selects. -/
theorem roundsTo_fpOperand (hprec : t.prec = s.prec)
    (h : AnswerRounds (fpFormat s) toZero dn x (answerIn (fpFormat s)))
    (hvalue : if s.prec then t.dr r = doubleBits (answerIn .double) n else t.fr r = singleBits (answerIn .single) n) :
    RoundsTo (fpFormat s) toZero dn x (fpOperand t r) := by
  rw [fpFormat] at h ⊢
  rw [fpOperand, hprec]
  split at hvalue
  · next hp =>
    rw [if_pos hp] at h ⊢
    rw [if_pos hp, hvalue]
    exact roundsTo_doubleBits h n
  · next hp =>
    rw [if_neg hp] at h ⊢
    rw [if_neg hp, hvalue]
    exact roundsTo_singleBits h n

theorem completes_with_answer (hexec : exec i s = .next (u.advance i.size))
    (hu : OnlyDrawn (s.setFp r (singleBits (answerIn .single) n) (doubleBits (answerIn .double) n)) u)
    (h : AnswerRounds (fpFormat s) toZero dn x (answerIn (fpFormat s))) :
    ∃ t, exec i s = .next t ∧ RoundsTo (fpFormat s) toZero dn x (fpOperand t r) ∧ Completed i s t ∧
      Frame s t [] [] [] (fpCells s r) [] := by
  obtain ⟨t, hexec, hvalue, hdone, hframe⟩ := completes_of_setFp hexec hu
  exact ⟨t, hexec, roundsTo_fpOperand (prec_of_frame hframe) h hvalue, hdone, hframe⟩

theorem completes_of_setAnswer (hexec : exec i s = .next ((s.setAnswer r answerIn).advance i.size))
    (h : AnswerRounds (fpFormat s) toZero dn x (answerIn (fpFormat s))) :
    ∃ t, exec i s = .next t ∧ RoundsTo (fpFormat s) toZero dn x (fpOperand t r) ∧ Completed i s t ∧
      Frame s t [] [] [] (fpCells s r) [] := completes_with_answer hexec onlyDrawn_drawn h

/-! ### Arithmetic -/

/-- FADD, FSUB, FMUL and FDIV write what their function answers for the operands FPSCR.PR names. -/
theorem arith_eq {op : FpOp} {fin : State → Res} (hround : RoundingSet s) (hr : OperandsExist s [ra, rb, rn]) :
    arith op ra rb rn fin s =
      fin (s.setAnswer rn fun f => op f s.toZero s.dn (fpOperand s ra) (fpOperand s rb)) := by
  rw [arith, roundingDefined_of_set hround, State.setAnswer, State.setFp, fpOperand, fpOperand]
  split
  · next hp =>
    rw [pairPresent_of_operandsExist hr hp (by simp), pairPresent_of_operandsExist hr hp (by simp),
      pairPresent_of_operandsExist hr hp (by simp)]
  · rfl

theorem exec_fpArith (h : fpArithForm i = some (exact, ra, rb, rn)) (hs : Startable i s) (hready : FpuReady s)
    (hround : RoundingSet s) (hr : OperandsExist s [ra, rb, rn]) :
    ∃ op : FpOp, Computes op exact ∧ exec i s = .next
      ((s.setAnswer rn fun f => op f s.toZero s.dn (fpOperand s ra) (fpOperand s rb)).advance i.size) := by
  have hshort (op : FpOp) := (fpuBanked_of_fpuReady hready).trans (arith_eq (op := op) (fin := done16) hround hr)
  have hlong (op : FpOp) := (fpuBanked_of_fpuReady hready).trans (arith_eq (op := op) (fin := done32) hround hr)
  cases i with
  | fadd =>
    cases h
    exact ⟨_, computes_add, hshort _⟩
  | fsub =>
    cases h
    exact ⟨_, computes_sub, hshort _⟩
  | fmul =>
    cases h
    exact ⟨_, computes_mul, hshort _⟩
  | fdiv =>
    cases h
    exact ⟨_, computes_div, hshort _⟩
  | fadd3 =>
    cases h
    exact ⟨_, computes_add, (notInSlot_of_none (hs rfl)).trans (hlong _)⟩
  | fsub3 =>
    cases h
    exact ⟨_, computes_sub, (notInSlot_of_none (hs rfl)).trans (hlong _)⟩
  | fmul3 =>
    cases h
    exact ⟨_, computes_mul, (notInSlot_of_none (hs rfl)).trans (hlong _)⟩
  | fdiv3 =>
    cases h
    exact ⟨_, computes_div, (notInSlot_of_none (hs rfl)).trans (hlong _)⟩
  | _ => cases h

/-- FSQRT writes the root of the operand FPSCR.PR names. -/
theorem squareRoot_eq (hround : RoundingSet s) (hr : OperandsExist s [rn]) :
    squareRoot rn s =
      done16 (s.setAnswer rn fun f => f.sqrt s.toZero s.dn (fpOperand s rn)) := by
  rw [squareRoot, roundingDefined_of_set hround, State.setAnswer, State.setFp, fpOperand]
  split
  · next hp => rw [pairPresent_of_operandsExist hr hp (by simp)]
  · rfl

/-! ### Comparison -/

/-- T written. -/
theorem completes_of_setT (h : exec i s = .next ((s.setT b).advance i.size)) :
    ∃ t, exec i s = .next t ∧ t.t = b ∧ Completed i s t ∧ Frame s t [] [0] [] [] [] :=
  ⟨_, h, State.t_setT .., completed_advance rfl rfl, frame_then_advance frame_setT⟩

theorem compare_eq {rel : FpFormat → Bool → Nat → Nat → Bool} (hround : RoundingSet s)
    (hr : OperandsExist s [rb, ra]) :
    compare rel ra rb s = toT16 (rel (fpFormat s) s.dn (fpOperand s ra) (fpOperand s rb)) s := by
  rw [compare, roundingDefined_of_set hround, fpFormat, fpOperand, fpOperand]
  split
  · next hp => rw [pairPresent_of_operandsExist hr hp (by simp), pairPresent_of_operandsExist hr hp (by simp)]
  · rfl

/-! ### Conversion -/

/-- FLOAT writes the integer in FPUL, rounded. -/
theorem intToFloat_eq (hround : RoundingSet s) (hr : OperandsExist s [rn]) :
    intToFloat rn s =
      done16 (s.setFp rn (singleBits (some (FpFormat.ofSigned .single s.toZero s.dn s.fpul.toInt)) s.free)
        (doubleBits (some (FpFormat.ofSigned .double s.toZero s.dn s.fpul.toInt)) s.free)) := by
  rw [intToFloat, roundingDefined_of_set hround]
  exact byPrecision_eq hr

/-- FTRC writes the operand that FPSCR.PR names, truncated. -/
theorem floatToInt_eq (hr : OperandsExist s [rn]) :
    floatToInt rn s =
      done16 (s.setFpul (truncated (FpFormat.truncate (fpFormat s) s.dn (fpOperand s rn)) s.free)).drawn := by
  rw [floatToInt, fpFormat, fpOperand]
  split
  · next hp => rw [pairPresent_of_operandsExist hr hp (by simp)]
  · rfl

theorem singleToDouble_eq (hp : s.prec = true) (hr : OperandsExist s [rn]) :
    singleToDouble rn s =
      done16 (s.setDr rn (doubleBits (FpFormat.convert .single .double false s.dn s.fpul.toNat) s.free)).drawn := by
  rw [singleToDouble, if_pos hp, pairPresent_of_operandsExist hr hp (by simp)]

theorem doubleToSingle_eq (hp : s.prec = true) (hround : RoundingSet s) (hr : OperandsExist s [rn]) :
    doubleToSingle rn s =
      done16 (s.setFpul
        (singleBits (FpFormat.convert .double .single s.toZero s.dn (s.dr rn).toNat) s.free)).drawn := by
  rw [doubleToSingle, if_pos hp, roundingDefined_of_set hround, pairPresent_of_operandsExist hr hp (by simp)]

end

/-- Settles O51: each writes what its function answers, which rounds the exact result. -/
theorem fpArithmeticResults : Obligations.FpArithmeticResults := by
  intro i s exact ra rb rn h hs hready hround hr
  obtain ⟨op, hop, hexec⟩ := exec_fpArith h hs hready hround hr
  exact completes_of_setAnswer hexec (hop _ s.toZero _ _ _ (proper_fpFormat s))

/-- Settles O52: each writes T with what its function answers, which compares the numbers. -/
theorem fpCompareResults : Obligations.FpCompareResults := by
  intro m n s hready hround hr
  constructor
  · obtain ⟨t, hexec, ht, hrest⟩ := completes_of_setT (i := .fcmpEq m n)
      ((fpuBanked_of_fpuReady hready).trans (compare_eq hround hr))
    exact ⟨t, hexec, ht ▸ eq_iff_numbersEqual (proper_fpFormat s), hrest⟩
  · obtain ⟨t, hexec, ht, hrest⟩ := completes_of_setT (i := .fcmpGt m n)
      ((fpuBanked_of_fpuReady hready).trans (compare_eq hround hr))
    exact ⟨t, hexec, ht ▸ gt_iff_numberLess (proper_fpFormat s), hrest⟩

/-- Settles O54: each writes what its function answers; FMAC_FUSED decides whether the product is rounded. -/
theorem fpRootAndAccumulateResults : Obligations.FpRootAndAccumulateResults := by
  rintro m n s toZero a b c hready hround rfl rfl rfl rfl
  refine ⟨fun hr => ?_, fun hp => ?_⟩
  · exact completes_of_setAnswer ((fpuBanked_of_fpuReady hready).trans (squareRoot_eq hround hr))
      (answerRounds_sqrt (proper_fpFormat s))
  · have hsingle : ¬ s.prec = true := Bool.eq_false_iff.mp hp
    obtain ⟨t, hexec, hcell, hrest⟩ := completes_of_setFr (i := .fmac m n)
      ((fpuBanked_of_fpuReady hready).trans ((if_neg hsingle).trans (roundingDefined_of_set hround))) onlyDrawn_drawn
    refine ⟨t, hexec, fun hfused => ?_, fun hfused => ?_, hrest⟩
    · rw [hcell, hfused]
      exact roundsTo_singleBits (answerRounds_mac_fused FpFormat.proper_single) _
    · rw [hcell, hfused]
      obtain ⟨product, hproduct, hsum⟩ := answerRounds_mac_unfused (toZero := s.toZero) (dn := s.dn)
        (a := (s.fr 0).toNat) (b := (s.fr m).toNat) (c := (s.fr n).toNat) FpFormat.proper_single
      exact ⟨product, hproduct, roundsTo_singleBits hsum _⟩

/-- Settles O55: each writes what its function answers; widening is exact, and so right under any rounding mode. -/
theorem fpConversionResults : Obligations.FpConversionResults := by
  intro n s hready hr
  refine ⟨fun hround => ?_, ?_, fun hp => ?_, fun hp hround => ?_⟩
  · exact completes_with_answer (answerIn := fun f => some (f.ofSigned s.toZero s.dn s.fpul.toInt))
      ((fpuBanked_of_fpuReady hready).trans (intToFloat_eq hround hr)) OnlyDrawn.refl
      (answerRounds_num (roundsTo_ofSigned (proper_fpFormat s) _))
  · obtain ⟨t, hexec, hfpul, hrest⟩ := completes_of_setFpul (i := .ftrc n)
      ((fpuBanked_of_fpuReady hready).trans (floatToInt_eq hr)) onlyDrawn_drawn
    exact ⟨t, hexec, fun sign x hx hlow hhigh => hfpul ▸ toInt_truncated_truncate hx hlow hhigh _, hrest⟩
  · obtain ⟨t, hexec, hpair, hrest⟩ := completes_of_setDr (i := .fcnvsd n)
      ((fpuBanked_of_fpuReady hready).trans (singleToDouble_eq hp hr)) onlyDrawn_drawn
    exact ⟨t, hexec, hpair ▸ roundsTo_doubleBits answerRounds_widening _, hrest⟩
  · obtain ⟨t, hexec, hfpul, hrest⟩ := completes_of_setFpul (i := .fcnvds n)
      ((fpuBanked_of_fpuReady hready).trans (doubleToSingle_eq hp hround hr)) onlyDrawn_drawn
    exact ⟨t, hexec, hfpul ▸ roundsTo_singleBits (answerRounds_convert FpFormat.proper_single) _, hrest⟩

end Sys2Proof.Machine
end

section
/-! PROOF. Half precision: the fields of a half and of a single as numbers (45_fpu.md R537, R539). -/

namespace Sys2Proof.Machine

open Sys2Proof.Safety

/-- The single that LDHF16 of a register makes of a half, as a number (45_fpu.md R537). -/
def IsLoadedHalf (h : Half) (v : Word) : Prop :=
  if h.toNat % 2 ^ 15 = 0 then v.toNat = h.toNat * 2 ^ 16
  else if h.toNat / 2 ^ 10 % 32 = 31 then
    if h.toNat % 2 ^ 10 = 0 then v.toNat = h.toNat / 2 ^ 15 * 2 ^ 31 + 0x7F800000
    else FpFormat.isNan .single v.toNat = true
  else v.toNat = h.toNat / 2 ^ 15 * 2 ^ 31 + h.toNat % 2 ^ 15 * 2 ^ 13 + 112 * 2 ^ 23

section
variable {s : State} {h : Half} {w x y : Word} {k n : Nat} {mode : HalfRounding} {free : Bool}

/-! ### Fields as numbers -/

/-- A field of a value is a remainder of a quotient. -/
theorem toNat_field {m : Nat} (v : BitVec m) (lo len : Nat) :
    (v.extractLsb' lo len).toNat = v.toNat / 2 ^ lo % 2 ^ len := by
  rw [BitVec.extractLsb'_toNat, Nat.shiftRight_eq_div_pow]

theorem field_eq_iff {m lo len : Nat} {v : BitVec m} {c : BitVec len} :
    v.extractLsb' lo len = c ↔ v.toNat / 2 ^ lo % 2 ^ len = c.toNat := by
  rw [← toNat_field, BitVec.toNat_inj]

/-- Values with no bit in common are joined by their sum. -/
theorem toNat_or_of_below (hx : 2 ^ k ∣ x.toNat) (hy : y.toNat < 2 ^ k) : (x ||| y).toNat = x.toNat + y.toNat := by
  obtain ⟨q, hq⟩ := hx
  rw [BitVec.toNat_or, hq, Nat.two_pow_add_eq_or_of_lt hy]

theorem toNat_shiftLeft_of_lt (hw : w.toNat * 2 ^ k < 2 ^ 32) : (w <<< k).toNat = w.toNat * 2 ^ k := by
  rw [BitVec.toNat_shiftLeft, Nat.shiftLeft_eq, Nat.mod_eq_of_lt hw]

theorem toNat_zext_field {m lo len : Nat} (v : BitVec m) (hlen : len ≤ 32) :
    (zext (v.extractLsb' lo len)).toNat = v.toNat / 2 ^ lo % 2 ^ len := by
  have hlt : v.toNat / 2 ^ lo % 2 ^ len < 2 ^ 32 :=
    lt_of_lt_of_le (Nat.mod_lt _ (by positivity)) (Nat.pow_le_pow_right (by decide) hlen)
  rw [zext, BitVec.toNat_setWidth, toNat_field, Nat.mod_eq_of_lt hlt]

/-- The sign of a half in the place of a single's. -/
theorem toNat_halfSign (h : Half) : (zext (h.extractLsb' 15 1) <<< 31).toNat = h.toNat / 2 ^ 15 * 2 ^ 31 := by
  have := h.isLt
  have hfield := toNat_zext_field (lo := 15) (len := 1) h (by decide)
  rw [toNat_shiftLeft_of_lt (by omega), hfield]
  omega

/-- The bit map of R537 adds 112 to the exponent. -/
theorem toNat_halfRepack (h : Half) :
    (halfRepack h).toNat = h.toNat / 2 ^ 15 * 2 ^ 31 + h.toNat % 2 ^ 15 * 2 ^ 13 + 112 * 2 ^ 23 := by
  have := h.isLt
  have hexp := toNat_zext_field (lo := 10) (len := 5) h (by decide)
  have hfrac := toNat_zext_field (lo := 0) (len := 10) h (by decide)
  have hbiased : (zext (h.extractLsb' 10 5) + 112#32).toNat = h.toNat / 2 ^ 10 % 2 ^ 5 + 112 := by
    rw [BitVec.toNat_add, hexp, BitVec.toNat_ofNat]
    omega
  have hsign := toNat_halfSign h
  have hexpShifted := toNat_shiftLeft_of_lt (w := zext (h.extractLsb' 10 5) + 112#32) (k := 23) (by omega)
  have hfracShifted := toNat_shiftLeft_of_lt (w := zext (h.extractLsb' 0 10)) (k := 13) (by omega)
  have hhigh := toNat_or_of_below (x := zext (h.extractLsb' 15 1) <<< 31)
    (y := (zext (h.extractLsb' 10 5) + 112#32) <<< 23) (k := 31) (by omega) (by omega)
  have hall := toNat_or_of_below
    (x := (zext (h.extractLsb' 15 1) <<< 31) ||| ((zext (h.extractLsb' 10 5) + 112#32) <<< 23))
    (y := zext (h.extractLsb' 0 10) <<< 13) (k := 23) (by omega) (by omega)
  refine hall.trans ?_
  omega

/-! ### LDHF16 -/

theorem toNat_halfInfinity (h : Half) :
    ((zext (h.extractLsb' 15 1) <<< 31) ||| 0x7F800000).toNat = h.toNat / 2 ^ 15 * 2 ^ 31 + 0x7F800000 := by
  have hsign := toNat_halfSign h
  have hinf : (0x7F800000#32).toNat = 0x7F800000 := rfl
  rw [← hsign, ← hinf]
  exact toNat_or_of_below (k := 31) (by omega) (by decide)

/-- LDHF16 of a register writes FPUL with the single of its half. -/
theorem loadHalf_eq (h : Half) (s : State) :
    ∃ v u, loadHalf h s = done16 u ∧ OnlyDrawn (s.setFpul v) u ∧ IsLoadedHalf h v := by
  have := h.isLt
  have hzero : h.extractLsb' 0 15 = 0 ↔ h.toNat % 2 ^ 15 = 0 := by rw [field_eq_iff]; simp
  have hexp : h.extractLsb' 10 5 = 31 ↔ h.toNat / 2 ^ 10 % 32 = 31 := field_eq_iff
  have hfrac : h.extractLsb' 0 10 = 0 ↔ h.toNat % 2 ^ 10 = 0 := by rw [field_eq_iff]; simp
  simp only [loadHalf, IsLoadedHalf, hzero, hexp, hfrac]
  split
  · refine ⟨_, _, rfl, OnlyDrawn.refl, ?_⟩
    rw [toNat_halfSign]
    omega
  · split
    · split
      · exact ⟨_, _, rfl, OnlyDrawn.refl, toNat_halfInfinity h⟩
      · have hnan : AnswerRounds .single false false .nan none := rfl
        exact ⟨_, _, rfl, onlyDrawn_drawn, roundsTo_singleBits hnan _⟩
    · exact ⟨_, _, rfl, OnlyDrawn.refl, toNat_halfRepack h⟩

theorem halfUndefined_iff (h : Half) :
    halfUndefined h = true ↔
      h.toNat / 2 ^ 10 % 32 = 31 ∨ (h.toNat / 2 ^ 10 % 32 = 0 ∧ h.toNat % 2 ^ 10 ≠ 0) := by
  have hexp : ∀ c : BitVec 5, h.extractLsb' 10 5 = c ↔ h.toNat / 2 ^ 10 % 32 = c.toNat := fun _ => field_eq_iff
  have hfrac : h.extractLsb' 0 10 = 0 ↔ h.toNat % 2 ^ 10 = 0 := by rw [field_eq_iff]; simp
  simp only [halfUndefined, Bool.or_eq_true, Bool.and_eq_true, beq_iff_eq, bne_iff_ne, ne_eq, hexp, hfrac]
  rfl

/-! ### STHF16 -/

/-- STHF16 rebiases the exponent and adds the increment as a number: a carry out of the fraction reaches the exponent
(45_fpu.md R539). -/
theorem singleToHalf_eq_halfOf (mode : HalfRounding) (free : Bool) (x : Word) :
    (singleToHalf mode free x).toNat =
      halfOf x (halfIncrement mode free (x.extractLsb' 0 13).toNat (x.getLsbD 13)).toNat := by
  have := x.isLt
  rw [singleToHalf, halfOf]
  generalize halfIncrement mode free (x.extractLsb' 0 13).toNat (x.getLsbD 13) = up
  have hup := Bool.toNat_le up
  have hfield := toNat_zext_field (lo := 31) (len := 1) x (by decide)
  have hsign : (zext (x.extractLsb' 31 1) <<< 15).toNat = x.toNat / 2 ^ 31 * 2 ^ 15 := by
    rw [toNat_shiftLeft_of_lt (by omega), hfield]
    omega
  have hhigh : 143 * 2 ^ 23 ≤ x.toNat % 2 ^ 31 ↔ 143 ≤ x.toNat / 2 ^ 23 % 2 ^ 8 := by omega
  have hlow : x.toNat % 2 ^ 31 < 113 * 2 ^ 23 ↔ x.toNat / 2 ^ 23 % 2 ^ 8 ≤ 112 := by omega
  simp only [toNat_field, hhigh, hlow]
  split
  · have hinf : (0x7C00#32).toNat = 0x7C00 := rfl
    rw [← hsign, ← hinf]
    exact toNat_or_of_below (k := 15) (by omega) (by decide)
  · split
    · rfl
    · have hrest : (BitVec.ofNat 32 ((x.toNat / 2 ^ 23 % 2 ^ 8 - 112) * 1024 + x.toNat / 2 ^ 13 % 2 ^ 10
          + up.toNat)).toNat = (x.toNat % 2 ^ 31 - 112 * 2 ^ 23) / 2 ^ 13 + up.toNat := by
        rw [BitVec.toNat_ofNat]
        omega
      rw [toNat_or_of_below (k := 15) (by omega) (by omega), hsign, hrest, add_assoc]

/-- The last bit of the fraction that is kept. -/
theorem getLsbD_lastKept (x : Word) : x.getLsbD 13 = decide (x.toNat / 2 ^ 13 % 2 = 1) := by
  rw [BitVec.getLsbD, Nat.testBit_eq_decide_div_mod_eq]

/-- The increment is the one the implementation fixes, or, where it fixes none and bits are lost, either. -/
theorem halfIncrement_eq_halfUp (mode : HalfRounding) (free : Bool) (x : Word) :
    match halfUp mode x with
    | some u => (halfIncrement mode free (x.extractLsb' 0 13).toNat (x.getLsbD 13)).toNat = u
    | none => (halfIncrement mode free (x.extractLsb' 0 13).toNat (x.getLsbD 13)).toNat = 0 ∨
        ((halfIncrement mode free (x.extractLsb' 0 13).toNat (x.getLsbD 13)).toNat = 1 ∧ x.toNat % 2 ^ 13 ≠ 0) := by
  have hlost : (x.extractLsb' 0 13).toNat = x.toNat % 2 ^ 13 := by rw [toNat_field, pow_zero, Nat.div_one]
  rw [hlost, getLsbD_lastKept]
  cases mode with
  | towardZero =>
    simp only [halfUp, halfIncrement, ite_self]
    rfl
  | awayFromZero =>
    simp only [halfUp, halfIncrement]
    split <;> rfl
  | nearestEven =>
    simp only [halfUp, halfIncrement]
    split
    · next hnone =>
      rw [if_neg (by omega)]
      rfl
    · have hincrement : (decide (4096 < x.toNat % 2 ^ 13) ||
          (x.toNat % 2 ^ 13 == 4096 && decide (x.toNat / 2 ^ 13 % 2 = 1))) =
          decide (2 ^ 12 < x.toNat % 2 ^ 13 ∨ (x.toNat % 2 ^ 13 = 2 ^ 12 ∧ x.toNat / 2 ^ 13 % 2 = 1)) := by
        rw [Bool.decide_or, Bool.decide_and]
        rfl
      rw [hincrement, Bool.toNat, Bool.cond_decide]
  | unfixed =>
    simp only [halfUp, halfIncrement]
    split
    · exact .inl rfl
    · next hne =>
      cases free with
      | false => exact .inl rfl
      | true => exact .inr ⟨rfl, hne⟩

/-- A general register written, and a draw made. -/
theorem completes_of_setReg_drawn {i : Instr} {r : Reg} {v : Word}
    (h : exec i s = .next ((s.setReg r v).drawn.advance i.size)) :
    ∃ t, exec i s = .next t ∧ t.reg r = v ∧ Completed i s t ∧ Frame s t [r] [] [] [] [] :=
  ⟨_, h, by rw [State.reg_advance, State.reg_drawn, State.reg_setReg_same], completed_advance rfl rfl,
    frame_then_advance (frame_then_onlyDrawn frame_setReg onlyDrawn_drawn)⟩

end

/-- Settles O59: the bit maps of R537 and R539 as sums of shifted fields, which do not overlap. -/
theorem halfPrecisionResults : Obligations.HalfPrecisionResults := by
  rintro r imm h s hon rfl
  refine ⟨?_, fun hslot => ?_, ?_⟩
  · obtain ⟨v, u, hload, hu, hv⟩ := loadHalf_eq ((s.reg r).extractLsb' 0 16) s
    obtain ⟨t, hexec, rfl, hrest⟩ := completes_of_setFpul (i := .ldhf16 r) ((fpuGated_of_fpuOn hon).trans hload) hu
    rw [← BitVec.setWidth_eq_extractLsb' (by omega)] at hv
    exact ⟨t, hexec, hv, hrest⟩
  · have hgate := (notInSlot_of_none hslot).trans (fpuGated_of_fpuOn hon (k := loadHalfImmediate imm s))
    split
    · next hundefined => exact hgate.trans (if_pos ((halfUndefined_iff imm).mpr hundefined))
    · next hdefined =>
      obtain ⟨t, hexec, hfpul, hrest⟩ := completes_of_setFpul (i := .ldhf16Imm imm)
        (hgate.trans (if_neg (mt (halfUndefined_iff imm).mp hdefined))) OnlyDrawn.refl
      exact ⟨t, hexec, hfpul ▸ toNat_halfRepack imm, hrest⟩
  · obtain ⟨t, hexec, hreg, hrest⟩ := completes_of_setReg_drawn (i := .sthf16 r) (fpuGated_of_fpuOn hon)
    refine ⟨t, _, hexec, hreg ▸ singleToHalf_eq_halfOf .., ?_, hrest⟩
    exact halfIncrement_eq_halfUp ..

end Sys2Proof.Machine
end

section
/-! PROOF. Trap entry for an exception and for an accepted interrupt: what each cause records, when a request is
accepted, and what a sleeping core does (60_exceptions.md R600, R610 to R612, R616, R620, R621; 44_system.md R468). -/

namespace Sys2Proof.Machine

open Sys2Proof.Safety

section
variable {s t : State} {e : Exc} {ev : Event} {code : BitVec 12} {old : Word}

/-! ### What an exception records -/

theorem Exc.toNat_code : e.code.toNat = exceptionCode e := by cases e <;> rfl

/-- Only the two TLB misses, told apart by their codes, have the vector 0x400 (60_exceptions.md R611). -/
theorem Exc.vector_eq_ite :
    e.vector = if exceptionCode e = 0x040 ∨ exceptionCode e = 0x060 then 0x400 else 0x100 := by
  cases e <;> rfl

theorem Exc.vector_cases : e.vector = 0x100 ∨ e.vector = 0x400 := by
  cases e with
  | rtlbMiss | wtlbMiss => exact .inr rfl
  | _ => exact .inl rfl

theorem Exc.teaAfter_eq_getD : e.teaAfter old = (recordedAddress e).getD old := by cases e <;> rfl

/-- Bits 9:2 of TRAEVT are the immediate, where the exception has one (44_system.md R472). -/
theorem Exc.toNat_traevtAfter_of_immediate {imm : BitVec 8} (h : recordedImmediate e = some imm) :
    (e.traevtAfter old).toNat = imm.toNat * 4 := by
  cases e with
  | trap =>
    cases h
    exact toNat_traevtAfter_trap
  | _ => cases h

theorem Exc.traevtAfter_of_no_immediate (h : recordedImmediate e = none) : e.traevtAfter old = old := by
  cases e with
  | trap => cases h
  | _ => rfl

/-- Outside a delay slot only TRAPA, the exception with an immediate, returns past its instruction
(60_exceptions.md R612). -/
theorem returnAddress_of_no_pending (h : s.pending = none) :
    e.returnAddress s = if recordedImmediate e = none then s.pc else s.pc + 2 := by
  cases e with
  | trap => exact returnAddress_trap h
  | _ => simp only [Exc.returnAddress, h, recordedImmediate, if_true]

/-! ### Interrupts -/

/-- What trap entry leaves for an accepted interrupt (60_exceptions.md R610, R621). -/
theorem trapEntered_enterInterrupt : TrapEntered s (enterInterrupt code s) s.pc (s.vbr + 0x600) where
  spc := enterInterrupt_spc s code
  ssr := enterInterrupt_ssr s code
  sgr := enterInterrupt_sgr s code
  mode := by
    simp only [State.md, State.rb, State.bl, enterInterrupt_sr, getLsbD_trapSr, Bool.or_true, true_or, or_true,
      decide_true, and_self]
  sr n hbl hrb hmd := by
    simp only [enterInterrupt_sr, getLsbD_trapSr, hbl, hrb, hmd, or_self, decide_false, Bool.or_false]
  pc := enterInterrupt_pc s code
  pending := enterInterrupt_pending s code
  registers := ⟨enterInterrupt_bankA s code, enterInterrupt_bankB s code, enterInterrupt_high s code,
    enterInterrupt_fa s code, enterInterrupt_fb s code⟩
  specials x hx := by
    cases x with
    | spc | ssr | sgr | tea | traevt | expevt | intevt => exact absurd (by decide) hx
    | _ => simp only [special, enterInterrupt]
  memory := ⟨enterInterrupt_mem s code, enterInterrupt_stale s code, enterInterrupt_devLog s code⟩

/-- Trap entry does not look at the requests to come. -/
theorem trapEntered_of_consumed {spc pc : Word} (h : TrapEntered s.consumed t spc pc) : TrapEntered s t spc pc :=
  ⟨h.spc, h.ssr, h.sgr, h.mode, h.sr, h.pc, h.pending, h.registers, h.specials, h.memory⟩

/-- A request is accepted outside delay slots with BL = 0, when it is NMI or above the mask (60_exceptions.md R621). -/
theorem acceptedCode_eq_some : acceptedCode s ev = some code ↔ s.pending = none ∧ s.bl = false ∧
    (ev = .nmi ∧ code = 0x1C0 ∨ ∃ level, ev = .irq level code ∧ s.im.toNat < level.toNat) := by
  unfold acceptedCode
  cases hp : s.pending with
  | some p => simp
  | none =>
    cases hbl : s.bl with
    | true => simp
    | false =>
      cases ev with
      | quiet | reset => simp
      | nmi => simp [eq_comm]
      | irq level c => simp [BitVec.lt_def, and_comm]

/-- Consuming the boundary's request changes nothing that acceptance looks at. -/
theorem step_of_no_reset (hreset : ∀ c, s.event ≠ .reset c) :
    step s =
      (acceptedCode s s.event).elim (runOrSleep s.consumed) fun code => .next (enterInterrupt code s.consumed) := by
  have hconsumed : acceptedCode s.consumed s.event = acceptedCode s s.event := rfl
  unfold step runBoundary
  split
  · next c hc => exact absurd hc (hreset c)
  · rw [hconsumed]
    cases acceptedCode s s.event <;> rfl

theorem step_of_accepted (hreset : ∀ c, s.event ≠ .reset c) (h : acceptedCode s s.event = some code) :
    step s = .next (enterInterrupt code s.consumed) := by
  rw [step_of_no_reset hreset, h, Option.elim_some]

theorem step_of_not_accepted (hreset : ∀ c, s.event ≠ .reset c) (h : acceptedCode s s.event = none) :
    step s = runOrSleep s.consumed := by
  rw [step_of_no_reset hreset, h, Option.elim_none]

/-! ### Sleep -/

theorem runOrSleep_of_wake (hs : s.asleep = true)
    (h : ∃ ev ∈ s.events, (∃ c, ev = .reset c) ∨ acceptedCode s ev ≠ none) : runOrSleep s = .next s := by
  obtain ⟨ev, hmem, hwakes⟩ := h
  exact runOrSleep_eq_next.mpr (.inl ⟨hs, List.any_eq_true.mpr ⟨ev, hmem, wakes_eq_true.mpr hwakes⟩, rfl⟩)

theorem runOrSleep_of_no_wake (hs : s.asleep = true)
    (h : ∀ ev ∈ s.events, (∀ c, ev ≠ .reset c) ∧ acceptedCode s ev = none) :
    runOrSleep s = .fault .asleepForever := by
  have hnone : s.events.any (wakes s) = false := List.any_eq_false.mpr fun ev hmem hwakes => by
    obtain ⟨hreset, haccepted⟩ := h ev hmem
    rcases wakes_eq_true.mp hwakes with ⟨c, hc⟩ | hsome
    · exact hreset c hc
    · exact hsome haccepted
  rw [runOrSleep, hs, hnone]
  rfl

end

/-- Settles O10: `raise` is trap entry with SR.BL = 0 and a fault with SR.BL = 1; the tables of the codes, vectors and
recorded values agree with what trap entry computes. -/
theorem exceptionEntry : Obligations.ExceptionEntry := by
  refine fun e s => ⟨fun hbl => if_pos hbl, fun hbl => ⟨_, raise_of_not_blocked hbl, ?_, Exc.toNat_code, rfl,
    Exc.teaAfter_eq_getD, ?_, rfl, rfl⟩⟩
  · have hentered := trapEntered_enterException (s := s) (e := e)
    rw [Exc.vector_eq_ite] at hentered
    cases hslot : s.pending with
    | none =>
      rw [returnAddress_of_no_pending hslot] at hentered
      exact hentered
    | some p =>
      rw [returnAddress_of_pending hslot] at hentered
      exact hentered
  · split
    · next himm => exact Exc.toNat_traevtAfter_of_immediate himm
    · next hnone => exact Exc.traevtAfter_of_no_immediate hnone

/-- Settles O11: an accepted request is interrupt entry; without one, what is still to come decides whether a
sleeping core has a next step. -/
theorem interruptAcceptance : Obligations.InterruptAcceptance := by
  refine fun s hreset => ⟨fun _ => acceptedCode_eq_some, fun _ haccepted => ?_, fun hnone hasleep => ⟨?_, ?_⟩⟩
  · refine ⟨_, step_of_accepted hreset haccepted, trapEntered_of_consumed trapEntered_enterInterrupt, ?_, ?_, ?_, ?_,
      enterInterrupt_asleep _ _⟩
    · rw [enterInterrupt_intevt, BitVec.toNat_setWidth_of_le (by decide)]
    · exact enterInterrupt_expevt _ _
    · exact enterInterrupt_tea _ _
    · exact enterInterrupt_traevt _ _
  · exact fun hwake => (step_of_not_accepted hreset hnone).trans (runOrSleep_of_wake hasleep hwake)
  · exact fun hwake => (step_of_not_accepted hreset hnone).trans (runOrSleep_of_no_wake hasleep hwake)

end Sys2Proof.Machine
end

section
/-! PROOF. User mode: the privileged instructions trap, no update reaches the supervisor's state, and the one way to
supervisor mode but for reset is trap entry (60_exceptions.md R603, R610, R611, R625, R630; 10_state.md R22, R45). -/

namespace Sys2Proof.Machine

open Sys2Proof.Safety

section
variable {s t u : State} {k : Res} {i : Instr} {w : Word} {n : Nat} {b : Bool}

/-! ### Privileged instructions -/

/-- What a privileged instruction answers in user mode. -/
def privilegeTrap (s : State) : Res := raise (if s.pending = none then .resInst else .illSlot) s

theorem privileged_of_user (h : s.md = false) : privileged s k = privilegeTrap s := by
  rw [privileged, h, State.inSlot, privilegeTrap]
  cases s.pending <;> rfl

/-- The check of the mode comes before any operand; RTE looks for a delay slot first, where either check raises
ILLSLOT. -/
theorem exec_privileged_of_user (hi : privilegedInstr i = true) (h : s.md = false) : exec i s = privilegeTrap s := by
  cases i with
  | ldcSr | ldcVbr | ldcSsr | ldcSpc | ldcSgr | ldcDbr | ldcBank | ldclSr | ldclVbr | ldclSsr | ldclSpc | ldclSgr
  | ldclDbr | ldclBank | stcSr | stcVbr | stcSsr | stcSpc | stcSgr | stcDbr | stcBank | stclSr | stclVbr | stclSsr
  | stclSpc | stclSgr | stclDbr | stclBank | ldtlb | sleep => exact privileged_of_user h
  | rte =>
    by_cases hslot : s.pending = none
    · exact (notInSlot_of_none hslot).trans (privileged_of_user h)
    · refine (notInSlot_of_pending hslot).trans ?_
      rw [privilegeTrap, if_neg hslot]
  | _ => cases hi

/-! ### What user mode keeps -/

theorem supervisorStateKept_refl : SupervisorStateKept s s :=
  ⟨rfl, rfl, rfl, rfl, rfl, rfl, rfl, rfl, rfl, rfl, rfl, fun _ => rfl⟩

theorem supervisorStateKept_trans (h : SupervisorStateKept s t) (h' : SupervisorStateKept t u) :
    SupervisorStateKept s u where
  md := h'.md.trans h.md
  rb := h'.rb.trans h.rb
  bl := h'.bl.trans h.bl
  im := h'.im.trans h.im
  fd := h'.fd.trans h.fd
  vbr := h'.vbr.trans h.vbr
  ssr := h'.ssr.trans h.ssr
  spc := h'.spc.trans h.spc
  sgr := h'.sgr.trans h.sgr
  dbr := h'.dbr.trans h.dbr
  bankB := h'.bankB.trans h.bankB
  registers r := (h'.registers r).trans (h.registers r)

theorem supervisorStateKept_consumed : SupervisorStateKept s s.consumed :=
  ⟨rfl, rfl, rfl, rfl, rfl, rfl, rfl, rfl, rfl, rfl, rfl, fun _ => rfl⟩

theorem OnlyRecords.supervisorStateKept (h : OnlyRecords s t) : SupervisorStateKept s t := by
  obtain ⟨n, l, rfl, -⟩ := h
  exact ⟨rfl, rfl, rfl, rfl, rfl, rfl, rfl, rfl, rfl, rfl, rfl, fun _ => rfl⟩

/-- The bits of SR below IM and those of the divide step are the user's: T, S, Q and M (10_state.md R30). -/
theorem supervisorStateKept_setBit (hn : n < 4 ∨ n = 8 ∨ n = 9) :
    SupervisorStateKept s { s with sr := setBit s.sr n b } := by
  have hbit : ∀ j, j ≠ n → (setBit s.sr n b).getLsbD j = s.sr.getLsbD j := fun j hj => by
    rw [getLsbD_setBit _ _ _ _ (by omega), if_neg hj]
  refine { supervisorStateKept_refl with
    md := hbit 30 (by omega)
    rb := hbit 29 (by omega)
    bl := hbit 28 (by omega)
    fd := hbit 15 (by omega)
    im := BitVec.eq_of_getLsbD_eq fun j hj => ?_ }
  simp only [State.im, BitVec.getLsbD_extractLsb', hbit (4 + j) (by omega)]

/-- User mode names Bank A whatever RB holds, so a register written leaves Bank B (10_state.md R22). -/
theorem bankB_setReg_of_user {r : Reg} (h : s.md = false) : (s.setReg r w).bankB = s.bankB := by
  simp [State.setReg, State.bankBActive, h]

/-- Every update user mode can make keeps the supervisor's state; the others are made in supervisor mode only. -/
theorem Update.supervisorStateKept (h : Update s t) (huser : s.md = false) : SupervisorStateKept s t := by
  cases h with
  | records h => exact h.supervisorStateKept
  | setReg => exact { supervisorStateKept_refl with bankB := bankB_setReg_of_user huser }
  | setT | setS => exact supervisorStateKept_setBit (by omega)
  | setQMT =>
    exact supervisorStateKept_trans (supervisorStateKept_setBit (n := 8) (by omega))
      (supervisorStateKept_trans (supervisorStateKept_setBit (n := 9) (by omega))
        (supervisorStateKept_setBit (n := 0) (by omega)))
  | setMmr hmd | setSr hmd | setVbr hmd | setSsr hmd | setSpc hmd | setSgr hmd | setDbr hmd | setOtherBank hmd
  | sleep hmd | returnFromException hmd => exact absurd (huser.symm.trans hmd) Bool.false_ne_true
  | _ => exact ⟨rfl, rfl, rfl, rfl, rfl, rfl, rfl, rfl, rfl, rfl, rfl, fun _ => rfl⟩

/-- The mode is among what each update keeps, so the next update is one of user mode again. -/
theorem supervisorStateKept_of_updates (h : Updates s t) (huser : s.md = false) : SupervisorStateKept s t := by
  induction h with
  | refl => exact supervisorStateKept_refl
  | tail _ hlast ih => exact supervisorStateKept_trans ih (hlast.supervisorStateKept (ih.md.trans huser))

/-! ### Into supervisor mode -/

theorem OnlyRecords.sr_and_vbr_eq (h : OnlyRecords s t) : t.sr = s.sr ∧ t.vbr = s.vbr := by
  obtain ⟨n, l, rfl, -⟩ := h
  exact ⟨rfl, rfl⟩

/-- Trap entry as user mode sees it, from a state with the SR and VBR of `s` (60_exceptions.md R610, R611, R625). -/
theorem supervisorEntry_of_trapEntered {spc offset : Word} (h : TrapEntered u t spc (u.vbr + offset))
    (hsr : u.sr = s.sr) (hvbr : u.vbr = s.vbr) (hoffset : offset = 0x100 ∨ offset = 0x400 ∨ offset = 0x600) :
    t.ssr = s.sr ∧ t.bl = true ∧ t.rb = true ∧ t.pending = none ∧
      (t.pc = s.vbr + 0x100 ∨ t.pc = s.vbr + 0x400 ∨ t.pc = s.vbr + 0x600) := by
  obtain ⟨-, hrb, hbl⟩ := h.mode
  refine ⟨h.ssr.trans hsr, hbl, hrb, h.pending, ?_⟩
  rw [h.pc, hvbr]
  exact hoffset.imp (congrArg (s.vbr + ·)) (Or.imp (congrArg (s.vbr + ·)) (congrArg (s.vbr + ·)))

end

/-- Settles O12: the check of the mode raises, and with SR.BL = 0 that is trap entry. -/
theorem privilegedInUserModeTraps : Obligations.PrivilegedInUserModeTraps :=
  fun _ _ hi huser hbl => (exec_privileged_of_user hi huser).trans (raise_of_not_blocked hbl)

/-- Settles O22: of the four things a step can be two are excluded; updates of user mode keep the supervisor's state,
and before a trap only the model's own records have changed. -/
theorem userModeIsolation : Obligations.UserModeIsolation := by
  intro s t huser hreset hnone h
  rcases step_cases h with ⟨c, hc, -⟩ | ⟨code, hcode, -⟩ | hu | ⟨e, u, hu, -, rfl⟩
  · exact absurd hc (hreset c)
  · exact absurd (hnone.symm.trans hcode) (Option.some_ne_none code).symm
  · exact .inl (supervisorStateKept_trans supervisorStateKept_consumed (supervisorStateKept_of_updates hu huser))
  · exact .inr ⟨e, u, supervisorStateKept_trans supervisorStateKept_consumed hu.supervisorStateKept, rfl⟩

/-- Settles O23: updates of user mode stay in user mode; reset, interrupt entry and trap entry are what is left. -/
theorem supervisorEntryOnlyByTrap : Obligations.SupervisorEntryOnlyByTrap := by
  intro s t huser h hsupervisor
  rcases step_cases h with ⟨c, hc, rfl⟩ | ⟨code, -, rfl⟩ | hu | ⟨e, u, hu, -, rfl⟩
  · exact .inl ⟨c, hc, rfl⟩
  · exact .inr (supervisorEntry_of_trapEntered trapEntered_enterInterrupt rfl rfl (.inr (.inr rfl)))
  · have hkept := supervisorStateKept_of_updates hu huser
    exact absurd (huser.symm.trans (hkept.md.symm.trans hsupervisor)) Bool.false_ne_true
  · obtain ⟨hsr, hvbr⟩ := hu.sr_and_vbr_eq
    exact .inr (supervisorEntry_of_trapEntered trapEntered_enterException hsr hvbr (e.vector_cases.imp_right .inl))

end Sys2Proof.Machine
end
